-- ==== Sys2Proof/Word.lean ====
section
/-! DEFINITION. The word types of the LIFA stepper motion core (spec/00_scope.md R8, R9; spec/30_encoding.md R90).
Bit 0 is the least significant bit. Addition and subtraction of `S32` and `U32` values are those of `BitVec`: exact,
then reduced modulo 2^32 (R10). -/

namespace Sys2Proof

/-- One byte of a transport that carries frames as bytes (R81). -/
abbrev Byte := BitVec 8

/-- `u16`, a 16-bit unsigned integer (R9). -/
abbrev U16 := BitVec 16

/-- `u32`, a 32-bit unsigned integer (R9); `<` on it is the unsigned comparison (R10). -/
abbrev U32 := BitVec 32

/-- `s32`, a 32-bit two's complement integer, by its bit pattern (R9); its value is `BitVec.toInt`. -/
abbrev S32 := BitVec 32

/-- `f32`, an IEEE 754 binary32 value, by its bit pattern (R9, R81). -/
abbrev F32 := BitVec 32

/-- A frame: the 64-bit word that encodes one command (R90). -/
abbrev Frame := BitVec 64

/-- A pin level: `true` is 1 (HIGH), `false` is 0 (LOW) (R9). -/
abbrev Level := Bool

end Sys2Proof
end

