-- ==== Sys2Proof/Config.lean ====
section
/-! DEFINITION. What is fixed for one core: the types of the implementation parameters (spec/00_scope.md R7,
spec/92_eei_decisions.md D38 to D41), the strap the reset state is built with, and the free values, which the spec
calls draws or leaves unstated. A free value is an opaque constant: nothing can evaluate it or prove a value of it.
The default VALUES of the parameters stand in Machine/Params.lean. -/

namespace Sys2Proof.Config

/-- The four pin outputs P1 to P4 (spec/10_state.md R41). -/
inductive Pin where
  | p1 | p2 | p3 | p4
  deriving DecidableEq, Repr

/-- One level for each of the four pins: the latches `PIN[1..4]`, the enables `OE[1..4]`, or one row of a pattern
table, written in the order P1 P2 P3 P4 (R8). -/
structure Pins where
  p1 : Level
  p2 : Level
  p3 : Level
  p4 : Level
  deriving DecidableEq, Repr, Inhabited

/-- `FLOAT_OPS`: the binary32 operations the profile engine computes with (R7, R11, D38). -/
structure FloatOps where
  add  : F32 → F32 → F32
  sub  : F32 → F32 → F32
  mul  : F32 → F32 → F32
  div  : F32 → F32 → F32
  sqrt : F32 → F32

/-- The parameters that R7 leaves open, each an argument of the micro-operations that use it. A `pat2` row drives
P1 and P2 only; its `p3` and `p4` are not read. -/
structure Params where
  floatOps : FloatOps
  pat2     : Vector Pins 4
  pat4     : Vector Pins 4
  pat8     : Vector Pins 8
  pinOrder : List Pin

/-- The topology strap with which `State.reset` is built. DESIGN CHOICE (notes/assumptions/1.md): the strap is an
input sampled at reset; every other strap is reached by the host's reset move. -/
def resetStrap : BitVec 4 := 4#4

/-- FREE VALUE: the clock sample drawn when the environment's list of samples is empty (R76, D42). Its arguments are
the core's source of draws and the number of samples the core took before it. -/
opaque clockDraw : Nat → Nat → U32

/-- FREE VALUE: the levels of the pin latches after a reset (R41, R300, U8). Its arguments are the core's
source of draws and the number of resets before it. -/
opaque pinDraw : Nat → Nat → Pins

/-- FREE VALUE: the microseconds a `Wait(us)` takes beyond `us` (R79, D43, U10). Its arguments are the
core's source of draws and the number of waits before it. -/
opaque waitExcess : Nat → Nat → Nat

/-- FREE VALUE: sign and payload of the NaN an invalid addition or subtraction gives (N5: no payload may be
assumed). -/
opaque nanOfAdd : F32 → F32 → F32

/-- FREE VALUE: sign and payload of the NaN an invalid multiplication gives. -/
opaque nanOfMul : F32 → F32 → F32

/-- FREE VALUE: sign and payload of the NaN an invalid division gives. -/
opaque nanOfDiv : F32 → F32 → F32

/-- FREE VALUE: `fsqrt(a)` where not `a >= 0`; R11 gives the square root for `a >= 0` only. -/
opaque sqrtOutside : F32 → F32

/-- FREE VALUE: `trunc_sat_u32(q)` where not `q >= 0`; R11 gives it for `q >= 0` only. -/
opaque truncOutside : F32 → U32

end Sys2Proof.Config
end

