-- ==== Sys2Proof/Machine/State.lean ====
section
/-! DEFINITION. The state of one core (spec/10_state.md R30 to R45) and of its boundary (spec/20_memory.md R71), why a
step can stop, and the state after reset (R49). The core has no memory and no program counter (R31, R70). -/

namespace Sys2Proof.Machine

open Sys2Proof.Config

/-- The sequencer (R45). -/
inductive Seq where
  | idle
  | busyRtp
  deriving DecidableEq, Repr

/-- The two callback strobes (R80). -/
inductive Strobe where
  | fwd
  | bwd
  deriving DecidableEq, Repr

/-- What passes the core's boundary while it runs: the events of the output trace (R78, R79, R80), the response words
(R96), and the two things that carry time, the clock samples (R76) and the durations of the waits (R79). They are kept
in ONE log so that their order is kept too (R74: a command's events come before its response; R79: a sample before a
wait and one after it). -/
inductive Output where
  | pin (p : Pin) (lv : Level)
  | wait (us : U16)
  | strobe (d : Strobe)
  | response (v : U32)
  /-- a clock sample the core took -/
  | sample (t : U32)
  /-- the wait begun by the event before it is over, after `us` microseconds -/
  | held (us : Nat)
  deriving DecidableEq, Repr

/-- One move of the host (R323). -/
inductive HostMove where
  /-- It issues a frame; `now` lists the clock samples the environment will supply while this command runs (R103's
  `@now`). -/
  | frame (f : Frame) (now : List U32)
  /-- It asserts reset with a strap value while the core performs nothing, or between two iterations of a blocking
  command (R300). -/
  | reset (strap : BitVec 4)
  /-- It asserts reset with a strap value WHILE the core performs what it would do next (the command of the frame that
  comes next, or an iteration), after at most `n` entries of what that adds to the log and before its response
  (R300, D36). -/
  | resetDuring (strap : BitVec 4) (n : Nat)
  /-- It makes no move while the core takes one step. -/
  | pause
  deriving DecidableEq, Repr

/-- The state. The first group is the core's, and is all the state R30 gives it; the second group is the MODEL's own
record of the core's boundary. -/
structure State where
  /-- `CUR_POS` (R32) -/
  curPos : S32
  /-- `TGT_POS` (R33) -/
  tgtPos : S32
  /-- `SPEED` (R34) -/
  speed : F32
  /-- `MAX_SPEED` (R35) -/
  maxSpeed : F32
  /-- `ACCEL` (R36) -/
  accel : F32
  /-- `STEP_INTERVAL` (R37) -/
  stepInterval : U32
  /-- `LAST_STEP_TIME` (R38) -/
  lastStepTime : U32
  /-- `MIN_PULSE_WIDTH` (R39) -/
  minPulseWidth : U16
  /-- `CONFIG` (R40) -/
  config : BitVec 32
  /-- the pin level latches `PIN[1..4]` (R41) -/
  pin : Pins
  /-- the output enables `OE[1..4]` (R41) -/
  oe : Pins
  /-- `STATUS` (R42) -/
  status : BitVec 32
  /-- `FAULT_FRAME` (R43) -/
  faultFrame : Frame
  /-- `SEQ` (R45) -/
  seq : Seq
  /-- the host's next moves, first one first -/
  host : List HostMove
  /-- the clock samples the environment will supply next, first one first; when it is empty, a free value is drawn -/
  clockIn : List U32
  /-- how many clock samples were taken so far: the counter of `Config.clockDraw` -/
  samples : Nat
  /-- how many resets took place so far: the counter of `Config.pinDraw` -/
  resets : Nat
  /-- how many waits began so far: the counter of `Config.waitExcess` -/
  waits : Nat
  /-- the source of this core's draws: cores with different sources draw unrelated values. No step writes it -/
  source : Nat
  /-- what passed the boundary so far, last one last -/
  log : List Output
  deriving DecidableEq, Repr

/-- Why the machine stops with a fault. (The five fault causes of R270 stop nothing: fault entry is a next state.) -/
inductive Fault where
  /-- Raised by `DRIVE_PINS` when a step is committed while `CONFIG.TOPOLOGY` is outside {0, 1, 2, 4, 8}. R180 gives
  `DRIVE_PINS` no effect there and says that the case is never reached: reset faults the core on such a strap, and a
  faulted core steps nothing. SAFE: no state that a run reaches raises it. -/
  | driveUndefinedTopology (topology : BitVec 4)
  deriving DecidableEq, Repr

/-- Why the model refuses an instruction. -/
inductive Refusal where
  /-- Raised by an arm of `exec` whose instruction has no meaning yet. SAFE. No arm does. -/
  | notModelled (mnemonic : String)
  deriving DecidableEq, Repr

/-- The state after reset with the legal strap `Config.resetStrap`, which is 4: R49's values, the output enables R301
gives for topology 4, the pin latches a draw. Nothing is issued, sampled or logged yet. -/
def State.reset : State where
  curPos := 0x00000000#32
  tgtPos := 0x00000000#32
  speed := 0x00000000#32
  maxSpeed := 0x3F800000#32
  accel := 0x3F800000#32
  stepInterval := 0x00000000#32
  lastStepTime := 0x00000000#32
  minPulseWidth := 0x0001#16
  config := resetStrap.setWidth 32
  pin := pinDraw 0 0
  oe := { p1 := true, p2 := true, p3 := true, p4 := true }
  status := 0x00000000#32
  faultFrame := 0x0000000000000000#64
  seq := .idle
  host := []
  clockIn := []
  samples := 0
  resets := 1
  waits := 0
  source := 0
  log := []

end Sys2Proof.Machine
end

