-- ==== Sys2Proof/Machine/Flags.lean ====
section
/-! DEFINITION. The fields of `STATUS` and `CONFIG` (spec/10_state.md R40, R42), the fault causes
(spec/60_exceptions.md R270), and every computation on the status bits. -/

namespace Sys2Proof.Machine

/-- The five fault causes (R270). -/
inductive Cause where
  | invalidTopology
  | invalidAcceleration
  | invalidMaxSpeed
  | invalidSpeed
  | illegalCommand
  deriving DecidableEq, Repr

/-- The code of a cause (R270). -/
def causeCode : Cause → Nat
  | .invalidTopology => 1
  | .invalidAcceleration => 2
  | .invalidMaxSpeed => 3
  | .invalidSpeed => 4
  | .illegalCommand => 5

/-- `STATUS.BUSY`, bit 0. -/
def busyBit (st : BitVec 32) : Bool := st.getLsbD 0

/-- `STATUS.FAULTED`, bit 1. -/
def faultedBit (st : BitVec 32) : Bool := st.getLsbD 1

/-- A cause's own bit, bit `7 + code`. -/
def causeBit (c : Cause) (st : BitVec 32) : Bool := st.getLsbD (7 + causeCode c)

/-- `STATUS.FIRST_CAUSE`, bits 19:16. -/
def firstCause (st : BitVec 32) : BitVec 4 := st.extractLsb' 16 4

/-- `STATUS` with `BUSY` written. -/
def withBusy (b : Bool) (st : BitVec 32) : BitVec 32 :=
  if b then st ||| 0x00000001#32 else st &&& 0xFFFFFFFE#32

/-- `STATUS` with `FAULTED` set. -/
def withFaulted (st : BitVec 32) : BitVec 32 := st ||| 0x00000002#32

/-- `STATUS` with a cause's own bit set. -/
def withCauseBit (c : Cause) (st : BitVec 32) : BitVec 32 := st ||| BitVec.twoPow 32 (7 + causeCode c)

/-- `STATUS` with `FIRST_CAUSE` written. -/
def withFirstCause (c : Cause) (st : BitVec 32) : BitVec 32 :=
  (st &&& 0xFFF0FFFF#32) ||| BitVec.ofNat 32 (causeCode c * 2 ^ 16)

/-- `STATUS` after fault entry (R273): `FIRST_CAUSE` is written only when the core was not faulted. -/
def faultStatus (c : Cause) (st : BitVec 32) : BitVec 32 :=
  withFaulted (withCauseBit c (if faultedBit st then st else withFirstCause c st))

/-- `CONFIG.TOPOLOGY`, bits 3:0 (R40). -/
def topologyOf (config : BitVec 32) : BitVec 4 := config.extractLsb' 0 4

/-- The legal topologies {0, 1, 2, 4, 8} (R40). -/
def legalTopology (t : BitVec 4) : Bool :=
  t == 0#4 || t == 1#4 || t == 2#4 || t == 4#4 || t == 8#4

/-- `STATUS.FAULTED` of a state. -/
def State.faulted (s : State) : Bool := faultedBit s.status

/-- `CONFIG.TOPOLOGY` of a state. -/
def State.topology (s : State) : BitVec 4 := topologyOf s.config

end Sys2Proof.Machine
end

