-- ==== Sys2Proof/Machine/Float.lean ====
section
/-! DEFINITION. The float primitives of spec/00_scope.md R11, on bit patterns: the exact operations and comparisons,
and the default of `FLOAT_OPS`, correctly rounded binary32, to nearest, ties to even.

Every finite binary32 value is a whole number of 2^-149. An operation is computed exactly on these whole numbers
(or as a quotient of two of them) and rounded once, by `roundUnits` or `sqrtUnits`. The low 31 bits of a pattern are
its magnitude code; on codes the order of magnitudes is the order of numbers, and the code after the largest finite
one is infinity's. -/

namespace Sys2Proof.Machine

/-- The magnitude code of infinity, `0x7F800000`. -/
def infMag : Nat := 0x7F800000

/-- The magnitude code: bits 30:0 (R81). -/
def fmag (a : F32) : Nat := a.toNat % 2 ^ 31

/-- The sign bit, bit 31 (R81). -/
def fsign (a : F32) : Bool := a.getLsbD 31

/-- The pattern with a given sign and magnitude code. -/
def pack (neg : Bool) (m : Nat) : F32 := BitVec.ofNat 32 (if neg then 2 ^ 31 + m else m)

def isNaN (a : F32) : Bool := decide (infMag < fmag a)
def isInf (a : F32) : Bool := fmag a == infMag
def isFinite (a : F32) : Bool := decide (fmag a < infMag)
def isZero (a : F32) : Bool := fmag a == 0

/-- A number whose order is the order of the values: both zeros are 0, and the infinities are the extremes. -/
def fkey (a : F32) : Int := if fsign a then -(fmag a : Int) else (fmag a : Int)

/-- `a == b` (R11): false when either is a NaN; the zeros are equal. -/
def feq (a b : F32) : Bool := !isNaN a && !isNaN b && decide (fkey a = fkey b)

/-- `a < b` (R11): false when either is a NaN. -/
def flt (a b : F32) : Bool := !isNaN a && !isNaN b && decide (fkey a < fkey b)

/-- `a <= b` (R11): false when either is a NaN. -/
def fle (a b : F32) : Bool := !isNaN a && !isNaN b && decide (fkey a ≤ fkey b)

/-- `fneg(a)`: the sign bit inverted, exactly, whatever `a` is (R11). -/
def fneg (a : F32) : F32 := a ^^^ 0x80000000#32

/-- `fabs(a)`: the sign bit cleared, exactly, whatever `a` is (R11). -/
def fabs (a : F32) : F32 := a &&& 0x7FFFFFFF#32

/-- The value of a finite magnitude code, in units of 2^-149: a subnormal's fraction as it is, a normal's with the
leading one, shifted by its exponent. -/
def units (m : Nat) : Nat :=
  if m < 2 ^ 23 then m else (2 ^ 23 + m % 2 ^ 23) * 2 ^ (m / 2 ^ 23 - 1)

/-- The signed value of a finite pattern, in units of 2^-149. -/
def funits (a : F32) : Int := if fsign a then -(units (fmag a) : Int) else (units (fmag a) : Int)

/-- The whole number nearest `n / d`, ties to the even one. -/
def roundEven (n d : Nat) : Nat :=
  if d < 2 * (n % d) ∨ (2 * (n % d) = d ∧ n / d % 2 = 1) then n / d + 1 else n / d

/-- The magnitude code of `n / d` units of 2^-149, rounded to nearest, ties to even; infinity's code on overflow.
`k` is the exponent of the quantum; adding the rounded significand to `k * 2^23` carries into the exponent by
itself. -/
def roundUnits (n d : Nat) : Nat :=
  let k := Nat.log2 (n / (d * 2 ^ 23))
  min infMag (k * 2 ^ 23 + roundEven n (d * 2 ^ k))

/-- Digit-by-digit integer square root, by fuel. -/
def isqrtAux : Nat → Nat → Nat
  | 0, _ => 0
  | fuel + 1, n =>
    let r := 2 * isqrtAux fuel (n / 4)
    if (r + 1) * (r + 1) ≤ n then r + 1 else r

/-- The largest whole number whose square is not above `n`. -/
def isqrt (n : Nat) : Nat := isqrtAux (n.log2 / 2 + 1) n

/-- The magnitude code of the square root of `n` square units (a unit is 2^-149), rounded to nearest, ties to
even. -/
def sqrtUnits (n : Nat) : Nat :=
  let k := Nat.log2 (isqrt n / 2 ^ 23)
  let q := isqrt (n / 4 ^ k)
  let mid := (2 * q + 1) * (2 * q + 1) * 4 ^ k
  k * 2 ^ 23 + (if mid < 4 * n ∨ (mid = 4 * n ∧ q % 2 = 1) then q + 1 else q)

/-- A quiet NaN whose sign and payload are those of `p`. -/
def quietNaN (p : F32) : F32 := p ||| 0x7FC00000#32

/-- Correctly rounded `fadd(a, b)`. An exact zero sum is `+0` unless both operands are negative zeros. -/
def ieeeAdd (a b : F32) : F32 :=
  if isNaN a || isNaN b then quietNaN (Config.nanOfAdd a b)
  else if isInf a then
    (if isInf b && (fsign a != fsign b) then quietNaN (Config.nanOfAdd a b) else a)
  else if isInf b then b
  else if funits a + funits b = 0 then pack (fsign a && fsign b) 0
  else pack (decide (funits a + funits b < 0)) (roundUnits (funits a + funits b).natAbs 1)

/-- Correctly rounded `fsub(a, b)`: the sum with the second sign inverted. -/
def ieeeSub (a b : F32) : F32 := ieeeAdd a (fneg b)

/-- Correctly rounded `fmul(a, b)`; zero times infinity is invalid. -/
def ieeeMul (a b : F32) : F32 :=
  if isNaN a || isNaN b || (isInf a && isZero b) || (isZero a && isInf b) then
    quietNaN (Config.nanOfMul a b)
  else if isInf a || isInf b then pack (fsign a != fsign b) infMag
  else pack (fsign a != fsign b) (roundUnits (units (fmag a) * units (fmag b)) (2 ^ 149))

/-- Correctly rounded `fdiv(a, b)`; `0/0` and `inf/inf` are invalid, `x/0` is an infinity (R11). -/
def ieeeDiv (a b : F32) : F32 :=
  if isNaN a || isNaN b || (isInf a && isInf b) || (isZero a && isZero b) then
    quietNaN (Config.nanOfDiv a b)
  else if isInf a || isZero b then pack (fsign a != fsign b) infMag
  else if isInf b then pack (fsign a != fsign b) 0
  else pack (fsign a != fsign b) (roundUnits (units (fmag a) * 2 ^ 149) (units (fmag b)))

/-- Correctly rounded `fsqrt(a)` for `a >= 0` (so for both zeros, which are their own roots); a free value for every
other `a`, for which R11 gives none. -/
def ieeeSqrt (a : F32) : F32 :=
  if isZero a then a
  else if isNaN a || fsign a then Config.sqrtOutside a
  else if isInf a then a
  else pack false (sqrtUnits (units (fmag a) * 2 ^ 149))

/-- The default of `FLOAT_OPS` (R7, D4). -/
def ieeeOps : Config.FloatOps :=
  { add := ieeeAdd, sub := ieeeSub, mul := ieeeMul, div := ieeeDiv, sqrt := ieeeSqrt }

/-- `cvt_f32(n)`: the whole number `n` rounded to nearest, ties to even (R11). -/
def cvtF32 (n : Nat) : F32 := pack false (roundUnits (n * 2 ^ 149) 1)

/-- `trunc_sat_u32(q)` (R11): for `q >= 0` the largest whole number not above `q`, saturating at 2^32-1; a free value
for every other `q`, for which R11 gives none. -/
def truncSatU32 (q : F32) : U32 :=
  if isNaN q || (fsign q && !isZero q) then Config.truncOutside q
  else if isInf q then 0xFFFFFFFF#32
  else BitVec.ofNat 32 (min (units (fmag q) / 2 ^ 149) 0xFFFFFFFF)

/-- `2.0` (R11). -/
def two : F32 := 0x40000000#32

/-- `1000000.0` (R11). -/
def million : F32 := 0x49742400#32

/-- `+0.0`. -/
def plusZero : F32 := 0x00000000#32

/-- The decimal literal `±digits * 10^exponent`, rounded to nearest, ties to even (R103). -/
def decimalF32 (neg : Bool) (digits : Nat) (exponent : Int) : F32 :=
  pack neg (match exponent with
    | .ofNat e => roundUnits (digits * 10 ^ e * 2 ^ 149) 1
    | .negSucc e => roundUnits (digits * 2 ^ 149) (10 ^ (e + 1)))

end Sys2Proof.Machine
end

