-- ==== Sys2Proof/Machine/Operands.lean ====
section
/-! DEFINITION. The operand forms as the commands use them: the value checks on the float operands
(spec/43_commands.md R213 to R215), the values derived from the registers (spec/10_state.md R46), and the forms of the
response word (spec/30_encoding.md R96). -/

namespace Sys2Proof.Machine

/-- The operands `SET_MAX_SPEED` refuses (R213): a NaN, an infinity, or not `v >= 0.0`; `-0.0` is accepted. -/
def maxSpeedRefused (v : F32) : Bool := isNaN v || isInf v || !fle plusZero v

/-- The operands `SET_ACCELERATION` refuses (R214): a NaN, an infinity, or not `a > 0.0`. -/
def accelerationRefused (a : F32) : Bool := isNaN a || isInf a || !flt plusZero a

/-- The operands `SET_SPEED` refuses (R215): a NaN. -/
def speedRefused (v : F32) : Bool := isNaN v

/-- `DISTANCE = s32(TGT_POS - CUR_POS)` (R46). -/
def State.distance (s : State) : S32 := s.tgtPos - s.curPos

/-- `PHASE = CUR_POS[2:0]` (R46). -/
def State.phase (s : State) : BitVec 3 := s.curPos.extractLsb' 0 3

/-- A boolean result as a response word: 1 for true, 0 for false (R96). -/
def boolResponse (b : Bool) : U32 := if b then 1#32 else 0#32

/-- A `u16` as a response word, zero-extended (R96). -/
def u16Response (w : U16) : U32 := w.setWidth 32

/-- Bits 31:0 of a frame (R236). -/
def frameLo (f : Frame) : U32 := f.extractLsb' 0 32

/-- Bits 63:32 of a frame (R237). -/
def frameHi (f : Frame) : U32 := f.extractLsb' 32 32

/-- The bytes of a response word on a transport that carries bytes, least significant first (R81, D26). -/
def responseBytes (v : U32) : List Byte := (List.range 4).map (fun n => v.extractLsb' (8 * n) 8)

end Sys2Proof.Machine
end

