-- ==== Sys2Proof/Machine/Ops.lean ====
section
/-! DEFINITION. The named operations on the state: one write per register (spec/00_scope.md R12), the interface
primitives (R13), and fault entry (spec/60_exceptions.md R273). -/

namespace Sys2Proof.Machine

open Sys2Proof.Config

/-! ### Register writes -/

def setCurPos (p : S32) (s : State) : State := { s with curPos := p }
def setTgtPos (p : S32) (s : State) : State := { s with tgtPos := p }

/-- `SPEED` and `STEP_INTERVAL` are always written together (R37). -/
def setSpeedPair (v : F32) (interval : U32) (s : State) : State := { s with speed := v, stepInterval := interval }

def setMaxSpeed (v : F32) (s : State) : State := { s with maxSpeed := v }
def setAccel (a : F32) (s : State) : State := { s with accel := a }
def setLastStepTime (t : U32) (s : State) : State := { s with lastStepTime := t }
def setMinPulseWidth (w : U16) (s : State) : State := { s with minPulseWidth := w }
def setPin (v : Pins) (s : State) : State := { s with pin := v }
def setStatus (v : BitVec 32) (s : State) : State := { s with status := v }
def setFaultFrame (f : Frame) (s : State) : State := { s with faultFrame := f }
def setSeq (q : Seq) (s : State) : State := { s with seq := q }

/-! ### The boundary -/

/-- Appends to the log of the boundary. -/
def emit (o : Output) (s : State) : State := { s with log := s.log ++ [o] }

/-- `respond(v)`: the response word of the current command (R13, R96). -/
def respond (v : U32) (s : State) : State := emit (.response v) s

/-- The sample the clock input would give now: the environment's next one, or a draw when it lists none (R76).
DESIGN CHOICE (notes/assumptions/3.md, 19.md): the spec does not say how the draws of two cores relate; here each core
names the source of its draws, and cores with different sources draw unrelated values. -/
def clockNow (s : State) : U32 :=
  match s.clockIn with
  | t :: _ => t
  | [] => clockDraw s.source s.samples

/-- The state after one sample is taken; no register changes (R76). -/
def takeSample (s : State) : State :=
  emit (.sample (clockNow s)) { s with clockIn := s.clockIn.tail, samples := s.samples + 1 }

/-- The level of one pin. -/
def pinsGet (v : Pins) : Pin → Level
  | .p1 => v.p1
  | .p2 => v.p2
  | .p3 => v.p3
  | .p4 => v.p4

/-- The pins with the level of one written. -/
def pinsSet (v : Pins) (p : Pin) (lv : Level) : Pins :=
  match p with
  | .p1 => { v with p1 := lv }
  | .p2 => { v with p2 := lv }
  | .p3 => { v with p3 := lv }
  | .p4 => { v with p4 := lv }

/-- The number of a pin, 1 to 4. -/
def pinNumber : Pin → Nat
  | .p1 => 1
  | .p2 => 2
  | .p3 => 3
  | .p4 => 4

/-- `PinWrite(Pi, lv)`: sets the latch and appends the event (R78). -/
def pinWrite (p : Pin) (lv : Level) (s : State) : State := emit (.pin p lv) (setPin (pinsSet s.pin p lv) s)

/-- `Wait(us)`: appends the event, and holds the core for `us` microseconds and a drawn excess (R79); the duration
stands in the log between the samples before it and after it, where `ClockMonotone` reads it. -/
def wait (us : U16) (s : State) : State :=
  emit (.held (us.toNat + waitExcess s.source s.waits)) (emit (.wait us) { s with waits := s.waits + 1 })

/-- `Strobe(FWD)` and `Strobe(BWD)`: append the event; no core state changes (R80). -/
def strobe (d : Strobe) (s : State) : State := emit (.strobe d) s

/-! ### The sequencer -/

/-- `SEQ <- BUSY_RTP; STATUS.BUSY <- 1` (R223). -/
def enterBusy (s : State) : State := setStatus (withBusy true s.status) (setSeq .busyRtp s)

/-- `SEQ <- IDLE; STATUS.BUSY <- 0` (R225). -/
def leaveBusy (s : State) : State := setStatus (withBusy false s.status) (setSeq .idle s)

/-! ### Fault entry -/

/-- What fault entry records (R273): `FIRST_CAUSE` and `FAULT_FRAME` only on the first fault, the cause bit and
`FAULTED` always. -/
def recordFault (c : Cause) (f : Frame) (s : State) : State :=
  setStatus (faultStatus c s.status) (setFaultFrame (if s.faulted then s.faultFrame else f) s)

/-- `raise Fault(code, f)` of a command (R273): fault entry, with the response 0. There is no return from it: only
reset leaves the faulted state (R277). -/
def raiseFault (c : Cause) (f : Frame) (s : State) : State := respond 0#32 (recordFault c f s)

end Sys2Proof.Machine
end

