-- ==== Sys2Proof/Machine/ReadBack.lean ====
section
/-! DEFINITION. The read-back commands (spec/43_commands.md R227 to R239): each responds with its value and changes
nothing else; each also runs while the core is faulted (spec/30_encoding.md R97). -/

namespace Sys2Proof.Machine

/-- `GET_CURRENT_POSITION` (R227): `CUR_POS`. -/
def execGetCurrentPosition (s : State) : Host.Outcome State Fault Refusal := .next (respond s.curPos s)

/-- `GET_TARGET_POSITION` (R228): `TGT_POS`. -/
def execGetTargetPosition (s : State) : Host.Outcome State Fault Refusal := .next (respond s.tgtPos s)

/-- `GET_DISTANCE_TO_GO` (R229): `s32(TGT_POS - CUR_POS)`. -/
def execGetDistanceToGo (s : State) : Host.Outcome State Fault Refusal := .next (respond s.distance s)

/-- `GET_SPEED` (R230): the bits of `SPEED`. -/
def execGetSpeed (s : State) : Host.Outcome State Fault Refusal := .next (respond s.speed s)

/-- `GET_MAX_SPEED` (R231): the bits of `MAX_SPEED`. -/
def execGetMaxSpeed (s : State) : Host.Outcome State Fault Refusal := .next (respond s.maxSpeed s)

/-- `GET_ACCELERATION` (R232): the bits of `ACCEL`. -/
def execGetAcceleration (s : State) : Host.Outcome State Fault Refusal := .next (respond s.accel s)

/-- `GET_STEP_INTERVAL` (R233): `STEP_INTERVAL`. -/
def execGetStepInterval (s : State) : Host.Outcome State Fault Refusal := .next (respond s.stepInterval s)

/-- `GET_LAST_STEP_TIME` (R234): `LAST_STEP_TIME`. -/
def execGetLastStepTime (s : State) : Host.Outcome State Fault Refusal := .next (respond s.lastStepTime s)

/-- `GET_MIN_PULSE_WIDTH` (R238): `MIN_PULSE_WIDTH`, zero-extended. -/
def execGetMinPulseWidth (s : State) : Host.Outcome State Fault Refusal := .next (respond (u16Response s.minPulseWidth) s)

/-- `GET_CONFIG` (R239): `CONFIG`. -/
def execGetConfig (s : State) : Host.Outcome State Fault Refusal := .next (respond s.config s)

/-- `GET_STATUS` (R235): `STATUS`. -/
def execGetStatus (s : State) : Host.Outcome State Fault Refusal := .next (respond s.status s)

/-- `GET_FAULT_FRAME_LO` (R236): `FAULT_FRAME[31:0]`. -/
def execGetFaultFrameLo (s : State) : Host.Outcome State Fault Refusal := .next (respond (frameLo s.faultFrame) s)

/-- `GET_FAULT_FRAME_HI` (R237): `FAULT_FRAME[63:32]`. -/
def execGetFaultFrameHi (s : State) : Host.Outcome State Fault Refusal := .next (respond (frameHi s.faultFrame) s)

end Sys2Proof.Machine
end

