-- ==== Sys2Proof/Machine/Params.lean ====
section
/-! DEFINITION. The values of the open parameters that `exec` uses: the spec's defaults (spec/00_scope.md R7), and the
properties R187 fixes whatever the tables are. -/

namespace Sys2Proof.Machine

open Sys2Proof.Config

/-- A table row from its levels P1 P2 P3 P4, each 0 or 1 (R8). -/
def row (a b c d : Nat) : Pins := { p1 := a == 1, p2 := b == 1, p3 := c == 1, p4 := d == 1 }

/-- The default `PAT2` (R183), levels P1 P2. -/
def pat2Default : Vector Pins 4 := #v[row 0 1 0 0, row 1 1 0 0, row 1 0 0 0, row 0 0 0 0]

/-- The default `PAT4` (R184). -/
def pat4Default : Vector Pins 4 := #v[row 1 0 1 0, row 0 1 1 0, row 0 1 0 1, row 1 0 0 1]

/-- The default `PAT8` (R185). -/
def pat8Default : Vector Pins 8 :=
  #v[row 1 0 0 0, row 1 0 1 0, row 0 0 1 0, row 0 1 1 0, row 0 1 0 0, row 0 1 0 1, row 0 0 0 1, row 1 0 0 1]

/-- The default `PIN_ORDER` (R7, D22). -/
def pinOrderDefault : List Pin := [.p1, .p2, .p3, .p4]

/-- The parameters of this model. -/
def params : Params :=
  { floatOps := ieeeOps, pat2 := pat2Default, pat4 := pat4Default, pat8 := pat8Default, pinOrder := pinOrderDefault }

/-- How many pins of a row are high. -/
def highCount (v : Pins) : Nat := v.p1.toNat + v.p2.toNat + v.p3.toNat + v.p4.toNat

/-- R187, on the four-wire full-step table: each entry has exactly two pins high, and the entries are distinct. -/
def pat4Structural (t : Vector Pins 4) : Bool :=
  t.toList.all (fun v => highCount v == 2) && decide (t.toList.Nodup)

/-- R187, on the half-step table: the entries alternate between one pin high and two. -/
def pat8Structural (t : Vector Pins 8) : Bool :=
  decide (t.toList.map highCount = [1, 2, 1, 2, 1, 2, 1, 2]) || decide (t.toList.map highCount = [2, 1, 2, 1, 2, 1, 2, 1])

/-- `PIN_ORDER` is a permutation of P1 to P4 (D40). -/
def pinOrderLegal (o : List Pin) : Bool := decide (o.Perm [.p1, .p2, .p3, .p4])

/-- The parameter sets the spec allows, as far as it constrains them (R187, D40). -/
def paramsLegal (P : Params) : Bool := pat4Structural P.pat4 && pat8Structural P.pat8 && pinOrderLegal P.pinOrder

end Sys2Proof.Machine
end

