-- ==== Sys2Proof/Machine/Pattern.lean ====
section
/-! DEFINITION. The step pattern generator (spec/42_pattern.md R180 to R188). -/

namespace Sys2Proof.Machine

open Sys2Proof.Config

/-- `DRIVE_TABLE(levels, n)` (R180, R186): every pin numbered 1 to `n` is written once, in the order `PIN_ORDER`. -/
def driveTable (P : Params) (levels : Pins) (n : Nat) (s : State) : State :=
  (P.pinOrder.filter (fun p => decide (pinNumber p ≤ n))).foldl (fun s p => pinWrite p (pinsGet levels p) s) s

/-- Topology 0, callbacks (R181). -/
def drive0 (s : State) : State := if flt plusZero s.speed then strobe .fwd s else strobe .bwd s

/-- Topology 1, step and direction: P2 is direction, P1 is step (R182). -/
def drive1 (s : State) : State :=
  pinWrite .p1 false (wait s.minPulseWidth (pinWrite .p1 true (pinWrite .p2 (flt plusZero s.speed) s)))

/-- The row of a four-row table that `PHASE & 3` selects (R183, R184). -/
def rowOf4 (t : Vector Pins 4) (phase : BitVec 3) : Pins := t[phase.toNat % 4]'(Nat.mod_lt _ (by decide))

/-- The row of an eight-row table that `PHASE` selects (R185). -/
def rowOf8 (t : Vector Pins 8) (phase : BitVec 3) : Pins := t[phase.toNat]'phase.isLt

/-- `DRIVE_PINS()` (R180): by the topology; a topology outside {0, 1, 2, 4, 8} stops. -/
def drivePins (P : Params) (s : State) : Except Fault State :=
  if s.topology = 0#4 then .ok (drive0 s)
  else if s.topology = 1#4 then .ok (drive1 s)
  else if s.topology = 2#4 then .ok (driveTable P (rowOf4 P.pat2 s.phase) 2 s)
  else if s.topology = 4#4 then .ok (driveTable P (rowOf4 P.pat4 s.phase) 4 s)
  else if s.topology = 8#4 then .ok (driveTable P (rowOf8 P.pat8 s.phase) 4 s)
  else .error (.driveUndefinedTopology s.topology)

end Sys2Proof.Machine
end

