-- ==== Sys2Proof/Machine/Gate.lean ====
section
/-! DEFINITION. The step timing gate and the commit of one step (spec/41_timing_gate.md R160 to R168). -/

namespace Sys2Proof.Machine

open Sys2Proof.Config

/-- `step_due(now, last, interval)` (R160), in the form of R162 to R164; every comparison is unsigned. -/
def stepDue (now last interval : U32) : Bool :=
  if interval = 0#32 then false
  else if last ≤ last + interval then decide (last + interval ≤ now) || decide (now < last)
  else decide (last + interval ≤ now) && decide (now < last)

/-- The verdict of `STEP_DUE()` (R161) on the sample the clock gives now. -/
def dueNow (s : State) : Bool := stepDue (clockNow s) s.lastStepTime s.stepInterval

/-- The position one step from `s` on, in the direction of the sign of `SPEED` (R166). -/
def steppedPos (s : State) : S32 :=
  if flt plusZero s.speed then s.curPos + 1#32
  else if flt s.speed plusZero then s.curPos - 1#32
  else s.curPos

/-- `COMMIT_STEP(now)` (R166): the position, then the pins by the new position, then the time of the step. -/
def commitStep (P : Params) (now : U32) (s : State) : Except Fault State :=
  (drivePins P (setCurPos (steppedPos s) s)).map (setLastStepTime now)

end Sys2Proof.Machine
end

