-- ==== Sys2Proof/Machine/Profile.lean ====
section
/-! DEFINITION. The speed profile engine and the speed write path (spec/40_profile.md R120 to R133), over the float
operations `P.floatOps` (R7). -/

namespace Sys2Proof.Machine

open Sys2Proof.Config

/-- The deceleration envelope as a signed square, for a distance `d` that is not 0 (R122): `(2.0 × |d|) × ACCEL` with
the sign of `d`; `|d|` is exact, also at -2^31. -/
def envelope (P : Params) (d : S32) (accel : F32) : F32 :=
  let mag := P.floatOps.mul (P.floatOps.mul two (cvtF32 d.toInt.natAbs)) accel
  if 0 < d.toInt then mag else fneg mag

/-- The current signed square (R123). -/
def signedSquare (P : Params) (speed : F32) : F32 :=
  let sq := P.floatOps.mul speed speed
  if flt plusZero speed then sq else fneg sq

/-- The size of one speed change, `|ACCEL / SPEED|` (R124, D10). -/
def speedChange (P : Params) (s : State) : F32 := fabs (P.floatOps.div s.accel s.speed)

/-- The speed from rest, `fsqrt(2.0 × ACCEL)` (R124). -/
def jumpStart (P : Params) (s : State) : F32 := P.floatOps.sqrt (P.floatOps.mul two s.accel)

/-- The positive-direction result without the fast path (R124, R128): from rest or by one change, clamped. -/
def raisedGeneric (P : Params) (s : State) : F32 :=
  let r := if feq s.speed plusZero then jumpStart P s else P.floatOps.add s.speed (speedChange P s)
  if flt s.maxSpeed r then s.maxSpeed else r

/-- The negative-direction result without the fast path (R125, R128). -/
def loweredGeneric (P : Params) (s : State) : F32 :=
  let r := if feq s.speed plusZero then fneg (jumpStart P s) else P.floatOps.sub s.speed (speedChange P s)
  if flt r (fneg s.maxSpeed) then fneg s.maxSpeed else r

/-- Step 4, the positive-direction case (R124). -/
def raisedSpeed (P : Params) (s : State) : F32 :=
  if feq s.speed s.maxSpeed then s.maxSpeed else raisedGeneric P s

/-- Step 5, the negative-direction case (R125). -/
def loweredSpeed (P : Params) (s : State) : F32 :=
  if feq s.speed (fneg s.maxSpeed) then fneg s.maxSpeed else loweredGeneric P s

/-- `DESIRED_SPEED()` (R120, R127). -/
def desiredSpeed (P : Params) (s : State) : F32 :=
  if s.distance = 0#32 then plusZero
  else if flt (signedSquare P s.speed) (envelope P s.distance s.accel) then raisedSpeed P s
  else if flt (envelope P s.distance s.accel) (signedSquare P s.speed) then loweredSpeed P s
  else s.speed

/-- `interval_of(s)` (R131). -/
def intervalOf (P : Params) (speed : F32) : U32 :=
  if feq speed plusZero then 0#32 else truncSatU32 (fabs (P.floatOps.div million speed))

/-- The value `APPLY_SPEED` writes: `v` clamped to `[-MAX_SPEED, MAX_SPEED]` (R130). -/
def clampSpeed (maxSpeed v : F32) : F32 :=
  if flt plusZero v && flt maxSpeed v then maxSpeed
  else if flt v plusZero && flt v (fneg maxSpeed) then fneg maxSpeed
  else v

/-- The early return of `APPLY_SPEED`: the value is unchanged and in range (R130, D11). -/
def speedUnchanged (v : F32) (s : State) : Bool :=
  feq v s.speed && fle (fneg s.maxSpeed) s.speed && fle s.speed s.maxSpeed

/-- `APPLY_SPEED(v)` (R130). -/
def applySpeed (P : Params) (v : F32) (s : State) : State :=
  if speedUnchanged v s then s
  else setSpeedPair (clampSpeed s.maxSpeed v) (intervalOf P (clampSpeed s.maxSpeed v)) s

/-- `COMPUTE_NEW_SPEED()` (R132). -/
def computeNewSpeed (P : Params) (s : State) : State := applySpeed P (desiredSpeed P s) s

end Sys2Proof.Machine
end

