-- ==== Sys2Proof/Machine/Sequencer.lean ====
section
/-! DEFINITION. The bodies the run commands share (spec/43_commands.md R220, R221) and one iteration of a blocking
command (R225). Each answers its boolean and the state after it, or the fault of `DRIVE_PINS`. -/

namespace Sys2Proof.Machine

open Sys2Proof.Config

/-- `RUN_SPEED_BODY()` (R220): one sample, and one step if the gate is due on it. -/
def runSpeedBody (P : Params) (s : State) : Except Fault (Bool × State) :=
  if dueNow s then (commitStep P (clockNow s) (takeSample s)).map (fun t => (true, t))
  else .ok (false, takeSample s)

/-- `RUN_BODY()` (R221): at target nothing; else the body above, and a recomputation after a step. -/
def runBody (P : Params) (s : State) : Except Fault (Bool × State) :=
  if s.curPos = s.tgtPos then .ok (false, s)
  else (runSpeedBody P s).map (fun r => (true, if r.1 then computeNewSpeed P r.2 else r.2))

/-- The body of `RUN_SPEED_TO_POSITION` (R222): refuses to step at the target, and never recomputes. -/
def runSpeedToPositionBody (P : Params) (s : State) : Except Fault (Bool × State) :=
  if s.curPos = s.tgtPos then .ok (false, s) else runSpeedBody P s

/-- The outcome of a run command from its body: it responds with the boolean (R96). -/
def respondBool : Except Fault (Bool × State) → Host.Outcome State Fault Refusal
  | .ok (b, t) => .next (respond (boolResponse b) t)
  | .error e => .fault e

/-- `RTP_ITERATE()` (R225): one pass of the blocking loop; the pass that finds the target ends the command. -/
def rtpIterate (P : Params) (s : State) : Host.Outcome State Fault Refusal :=
  match runBody P s with
  | .ok (true, t) => .next t
  | .ok (false, t) => .next (respond 0#32 (leaveBusy t))
  | .error e => .fault e

end Sys2Proof.Machine
end

