-- ==== Sys2Proof/Machine/Running.lean ====
section
/-! DEFINITION. The run commands (spec/43_commands.md R220 to R224). -/

namespace Sys2Proof.Machine

/-- `RUN` (R221), with any parameters. -/
def runWith (P : Config.Params) (s : State) : Host.Outcome State Fault Refusal := respondBool (runBody P s)

/-- `RUN` (R221). -/
def execRun (s : State) : Host.Outcome State Fault Refusal := runWith params s

/-- `RUN_SPEED` (R220), with any parameters. -/
def runSpeedWith (P : Config.Params) (s : State) : Host.Outcome State Fault Refusal := respondBool (runSpeedBody P s)

/-- `RUN_SPEED` (R220). -/
def execRunSpeed (s : State) : Host.Outcome State Fault Refusal := runSpeedWith params s

/-- `RUN_SPEED_TO_POSITION` (R222), with any parameters. -/
def runSpeedToPositionWith (P : Config.Params) (s : State) : Host.Outcome State Fault Refusal :=
  respondBool (runSpeedToPositionBody P s)

/-- `RUN_SPEED_TO_POSITION` (R222). -/
def execRunSpeedToPosition (s : State) : Host.Outcome State Fault Refusal := runSpeedToPositionWith params s

/-- `RUN_TO_POSITION` (R223): starts the blocking loop; the response comes from its last iteration. -/
def execRunToPosition (s : State) : Host.Outcome State Fault Refusal := .next (enterBusy s)

/-- `RUN_TO_NEW_POSITION p` (R224), with any parameters: `MOVE_TO p` without its response, then the blocking loop. -/
def runToNewPositionWith (P : Config.Params) (p : S32) (s : State) : Host.Outcome State Fault Refusal :=
  .next (enterBusy (computeNewSpeed P (setTgtPos p s)))

/-- `RUN_TO_NEW_POSITION p` (R224). -/
def execRunToNewPosition (p : S32) (s : State) : Host.Outcome State Fault Refusal := runToNewPositionWith params p s

end Sys2Proof.Machine
end

