-- ==== Sys2Proof/Syntax.lean ====
section
/-! DEFINITION. The abstract syntax of the command set LIFA-CORE-CMD-1 (spec/30_encoding.md R94, R95): one
constructor of `Instr` per row of spec/opcode_table.json; and the source lines of R103. -/

namespace Sys2Proof

/-- A command with its operand, typed as R94 types it. Every term is a legal command: an `S32` or `F32` operand is
any 32-bit pattern, a `U16` operand any 16-bit one, and a `NONE` command has none. -/
inductive Instr where
  | moveTo (p : S32)                 -- MOVE_TO, R210
  | move (r : S32)                   -- MOVE, R211
  | setCurrentPosition (p : S32)     -- SET_CURRENT_POSITION, R212
  | setMaxSpeed (v : F32)            -- SET_MAX_SPEED, R213
  | setAcceleration (a : F32)        -- SET_ACCELERATION, R214
  | setSpeed (v : F32)               -- SET_SPEED, R215
  | setMinPulseWidth (w : U16)       -- SET_MIN_PULSE_WIDTH, R216
  | run                              -- RUN, R221
  | runSpeed                         -- RUN_SPEED, R220
  | runSpeedToPosition               -- RUN_SPEED_TO_POSITION, R222
  | runToPosition                    -- RUN_TO_POSITION, R223
  | runToNewPosition (p : S32)       -- RUN_TO_NEW_POSITION, R224
  | getCurrentPosition               -- GET_CURRENT_POSITION, R227
  | getTargetPosition                -- GET_TARGET_POSITION, R228
  | getDistanceToGo                  -- GET_DISTANCE_TO_GO, R229
  | getSpeed                         -- GET_SPEED, R230
  | getMaxSpeed                      -- GET_MAX_SPEED, R231
  | getAcceleration                  -- GET_ACCELERATION, R232
  | getStepInterval                  -- GET_STEP_INTERVAL, R233
  | getLastStepTime                  -- GET_LAST_STEP_TIME, R234
  | getMinPulseWidth                 -- GET_MIN_PULSE_WIDTH, R238
  | getConfig                        -- GET_CONFIG, R239
  | getStatus                        -- GET_STATUS, R235
  | getFaultFrameLo                  -- GET_FAULT_FRAME_LO, R236
  | getFaultFrameHi                  -- GET_FAULT_FRAME_HI, R237
  deriving DecidableEq, Repr

/-- The name of a command without its operand: what the opcode alone selects (R91). -/
inductive Op where
  | moveTo | move | setCurrentPosition | setMaxSpeed | setAcceleration | setSpeed | setMinPulseWidth
  | run | runSpeed | runSpeedToPosition | runToPosition | runToNewPosition
  | getCurrentPosition | getTargetPosition | getDistanceToGo | getSpeed | getMaxSpeed | getAcceleration
  | getStepInterval | getLastStepTime | getMinPulseWidth | getConfig | getStatus
  | getFaultFrameLo | getFaultFrameHi
  deriving DecidableEq, Repr

/-- The four operand types of R94. -/
inductive OperandType where
  | s32 | f32 | u16 | none
  deriving DecidableEq, Repr

/-- An operand as R103 lets a source line write it. -/
inductive AsmOperand where
  /-- no operand -/
  | absent
  /-- a decimal integer with an optional sign -/
  | decimal (n : Int)
  /-- `0x` and hexadecimal digits, giving the bit pattern -/
  | hex (n : Nat)
  /-- a decimal floating literal, the value `±digits * 10^exponent` -/
  | floating (neg : Bool) (digits : Nat) (exponent : Int)
  /-- `f32(0xXXXXXXXX)`, giving the bit pattern -/
  | floatBits (n : Nat)
  /-- `inf` -/
  | inf
  /-- `-inf` -/
  | negInf
  /-- `nan` -/
  | nan
  deriving DecidableEq, Repr

/-- A source line `MNEMONIC [operand] [@now=...]` (R103). `now` lists the annotated clock samples in order; it is no
part of the encoding. -/
structure AsmLine where
  op      : Op
  operand : AsmOperand
  now     : List Nat
  deriving DecidableEq, Repr

end Sys2Proof
end

