-- ==== Sys2Proof/Machine/OperandTypes.lean ====
section
/-! DEFINITION. The operand type of each command (spec/30_encoding.md R94, R95), which the decoder's checks, the
well-formedness checks and the assembler read. -/

namespace Sys2Proof

/-- The operand type of a command (R95). -/
def Op.operandType : Op → OperandType
  | .moveTo | .move | .setCurrentPosition | .runToNewPosition => .s32
  | .setMaxSpeed | .setAcceleration | .setSpeed => .f32
  | .setMinPulseWidth => .u16
  | .run | .runSpeed | .runSpeedToPosition | .runToPosition
  | .getCurrentPosition | .getTargetPosition | .getDistanceToGo | .getSpeed | .getMaxSpeed | .getAcceleration
  | .getStepInterval | .getLastStepTime | .getMinPulseWidth | .getConfig | .getStatus
  | .getFaultFrameLo | .getFaultFrameHi => .none

end Sys2Proof
end

