-- ==== Sys2Proof/WellFormed.lean ====
section
/-! DEFINITION. The well-formedness checks. A term of `Instr` needs none: its fields have exactly the operand types
of R94, so every term is a command with a legal frame. The checks that R103 puts on a SOURCE LINE (the operand's form
fits the command's type, and its value lies in the range R103 gives) are here; the checks that R100 puts on a FRAME
are the decoder's, each under a name of its own (Decode.lean, `Illegal`). -/

namespace Sys2Proof

/-- The forms R103 gives each operand type, with the range of each: an `S32` operand is decimal in [-2^31, 2^31) or
hexadecimal in [0, 2^32); an `F32` operand is a floating literal, a bit pattern of 32 bits, `inf`, `-inf` or `nan`;
a `U16` operand is decimal in [0, 65535]; a `NONE` command takes no operand. A decimal integer is also a floating
literal. -/
def AsmOperand.fits : OperandType → AsmOperand → Bool
  | .s32, .decimal n => decide (-2147483648 ≤ n) && decide (n < 2147483648)
  | .s32, .hex n => decide (n < 4294967296)
  | .f32, .decimal _ => true
  | .f32, .floating _ _ _ => true
  | .f32, .floatBits n => decide (n < 4294967296)
  | .f32, .inf => true
  | .f32, .negInf => true
  | .f32, .nan => true
  | .u16, .decimal n => decide (0 ≤ n) && decide (n ≤ 65535)
  | .none, .absent => true
  | .s32, .absent => false
  | .s32, .floating _ _ _ => false
  | .s32, .floatBits _ => false
  | .s32, .inf => false
  | .s32, .negInf => false
  | .s32, .nan => false
  | .f32, .absent => false
  | .f32, .hex _ => false
  | .u16, .absent => false
  | .u16, .hex _ => false
  | .u16, .floating _ _ _ => false
  | .u16, .floatBits _ => false
  | .u16, .inf => false
  | .u16, .negInf => false
  | .u16, .nan => false
  | .none, .decimal _ => false
  | .none, .hex _ => false
  | .none, .floating _ _ _ => false
  | .none, .floatBits _ => false
  | .none, .inf => false
  | .none, .negInf => false
  | .none, .nan => false

/-- The blocking commands, whose annotation lists the samples of successive `RTP_ITERATE` steps (R103). -/
def Op.isBlocking : Op → Bool
  | .runToPosition | .runToNewPosition => true
  | .moveTo | .move | .setCurrentPosition | .setMaxSpeed | .setAcceleration | .setSpeed | .setMinPulseWidth
  | .run | .runSpeed | .runSpeedToPosition
  | .getCurrentPosition | .getTargetPosition | .getDistanceToGo | .getSpeed | .getMaxSpeed | .getAcceleration
  | .getStepInterval | .getLastStepTime | .getMinPulseWidth | .getConfig | .getStatus
  | .getFaultFrameLo | .getFaultFrameHi => false

/-- R103's annotation: every sample is a `u32`, and only a blocking command lists more than one. -/
def AsmLine.nowFits (l : AsmLine) : Bool :=
  l.now.all (fun t => decide (t < 4294967296)) && (l.op.isBlocking || decide (l.now.length ≤ 1))

/-- A source line that R103 allows. -/
def AsmLine.wellFormed (l : AsmLine) : Bool :=
  AsmOperand.fits l.op.operandType l.operand && l.nowFits

end Sys2Proof
end

