-- ==== Sys2Proof/Decode.lean ====
section
/-! DEFINITION. The frame format, the opcode map, the decoder and, after it, the encoder
(spec/30_encoding.md R90 to R103). -/

namespace Sys2Proof

/-- `OPCODE = frame[7:0]` (R91). -/
def opcodeOf (f : Frame) : BitVec 8 := f.extractLsb' 0 8

/-- `RSVD = frame[31:8]` (R92). -/
def rsvdOf (f : Frame) : BitVec 24 := f.extractLsb' 8 24

/-- `OPERAND = frame[63:32]` (R93). -/
def operandOf (f : Frame) : U32 := f.extractLsb' 32 32

/-- The opcode map of R95, read from the opcode; `none` for the unassigned opcodes of R99. -/
def Op.ofOpcode (c : BitVec 8) : Option Op :=
  match c.toNat with
  | 0x01 => some .moveTo
  | 0x02 => some .move
  | 0x03 => some .setCurrentPosition
  | 0x04 => some .setMaxSpeed
  | 0x05 => some .setAcceleration
  | 0x06 => some .setSpeed
  | 0x07 => some .setMinPulseWidth
  | 0x10 => some .run
  | 0x11 => some .runSpeed
  | 0x12 => some .runSpeedToPosition
  | 0x13 => some .runToPosition
  | 0x14 => some .runToNewPosition
  | 0x20 => some .getCurrentPosition
  | 0x21 => some .getTargetPosition
  | 0x22 => some .getDistanceToGo
  | 0x23 => some .getSpeed
  | 0x24 => some .getMaxSpeed
  | 0x25 => some .getAcceleration
  | 0x26 => some .getStepInterval
  | 0x27 => some .getLastStepTime
  | 0x28 => some .getMinPulseWidth
  | 0x29 => some .getConfig
  | 0x2A => some .getStatus
  | 0x2B => some .getFaultFrameLo
  | 0x2C => some .getFaultFrameHi
  | _ => none

/-- Why a frame is illegal (R100). -/
inductive Illegal where
  /-- its opcode is unassigned (R99) -/
  | unassignedOpcode
  /-- its `RSVD` is nonzero -/
  | reservedNotZero
  /-- its operand type is `NONE` and its `OPERAND` is nonzero -/
  | operandNotZero
  /-- its operand type is `U16` and `OPERAND[31:16]` is nonzero -/
  | operandHighNotZero
  /-- the bytes are not one whole frame; the port has no partial or split frame (R82) -/
  | notOneFrame
  deriving DecidableEq, Repr

/-- The command with operand bits `v`, assembled by R94: no scaling, no sign extension. -/
def Op.withOperand (o : Op) (v : U32) : Instr :=
  match o with
  | .moveTo => .moveTo v
  | .move => .move v
  | .setCurrentPosition => .setCurrentPosition v
  | .setMaxSpeed => .setMaxSpeed v
  | .setAcceleration => .setAcceleration v
  | .setSpeed => .setSpeed v
  | .setMinPulseWidth => .setMinPulseWidth (v.extractLsb' 0 16)
  | .run => .run
  | .runSpeed => .runSpeed
  | .runSpeedToPosition => .runSpeedToPosition
  | .runToPosition => .runToPosition
  | .runToNewPosition => .runToNewPosition v
  | .getCurrentPosition => .getCurrentPosition
  | .getTargetPosition => .getTargetPosition
  | .getDistanceToGo => .getDistanceToGo
  | .getSpeed => .getSpeed
  | .getMaxSpeed => .getMaxSpeed
  | .getAcceleration => .getAcceleration
  | .getStepInterval => .getStepInterval
  | .getLastStepTime => .getLastStepTime
  | .getMinPulseWidth => .getMinPulseWidth
  | .getConfig => .getConfig
  | .getStatus => .getStatus
  | .getFaultFrameLo => .getFaultFrameLo
  | .getFaultFrameHi => .getFaultFrameHi

/-- `decode(f)` of R97, its tests in R97's order; an illegal frame is refused with the reason R100 gives. -/
def decode (f : Frame) : Except Illegal Instr :=
  match Op.ofOpcode (opcodeOf f) with
  | none => .error .unassignedOpcode
  | some o =>
    if rsvdOf f ≠ 0#24 then .error .reservedNotZero
    else if o.operandType = .none ∧ operandOf f ≠ 0#32 then .error .operandNotZero
    else if o.operandType = .u16 ∧ (operandOf f).extractLsb' 16 16 ≠ 0#16 then .error .operandHighNotZero
    else .ok (o.withOperand (operandOf f))

/-- A frame from the bytes of a transport, least significant byte first (R81, D26); a frame is eight bytes whole
(R82, R102). -/
def frameOfBytes (bs : List Byte) : Option Frame :=
  if bs.length = 8 then some (BitVec.ofNat 64 (bs.foldr (fun b n => b.toNat + 256 * n) 0)) else none

/-- The decoder on the bytes of a transport, total on any bytes. -/
def decodeBytes (bs : List Byte) : Except Illegal Instr :=
  match frameOfBytes bs with
  | some f => decode f
  | none => .error .notOneFrame

/-- The decoder on a word numbered as spec/opcode_table.json numbers it: the low `nbits` bits of `w`, every bit above
them 0. A frame is one 64-bit word, and its bits are numbered as the table's (R8, R90). -/
def decodeTableWord (nbits w : Nat) : Option Instr :=
  match decode (BitVec.ofNat 64 (w % 2 ^ nbits)) with
  | .ok i => some i
  | .error _ => none

/-- The opcode of a command (R95). -/
def Op.opcode : Op → BitVec 8
  | .moveTo => 0x01#8
  | .move => 0x02#8
  | .setCurrentPosition => 0x03#8
  | .setMaxSpeed => 0x04#8
  | .setAcceleration => 0x05#8
  | .setSpeed => 0x06#8
  | .setMinPulseWidth => 0x07#8
  | .run => 0x10#8
  | .runSpeed => 0x11#8
  | .runSpeedToPosition => 0x12#8
  | .runToPosition => 0x13#8
  | .runToNewPosition => 0x14#8
  | .getCurrentPosition => 0x20#8
  | .getTargetPosition => 0x21#8
  | .getDistanceToGo => 0x22#8
  | .getSpeed => 0x23#8
  | .getMaxSpeed => 0x24#8
  | .getAcceleration => 0x25#8
  | .getStepInterval => 0x26#8
  | .getLastStepTime => 0x27#8
  | .getMinPulseWidth => 0x28#8
  | .getConfig => 0x29#8
  | .getStatus => 0x2A#8
  | .getFaultFrameLo => 0x2B#8
  | .getFaultFrameHi => 0x2C#8

/-- What the opcode of a command names. -/
def Instr.op : Instr → Op
  | .moveTo _ => .moveTo
  | .move _ => .move
  | .setCurrentPosition _ => .setCurrentPosition
  | .setMaxSpeed _ => .setMaxSpeed
  | .setAcceleration _ => .setAcceleration
  | .setSpeed _ => .setSpeed
  | .setMinPulseWidth _ => .setMinPulseWidth
  | .run => .run
  | .runSpeed => .runSpeed
  | .runSpeedToPosition => .runSpeedToPosition
  | .runToPosition => .runToPosition
  | .runToNewPosition _ => .runToNewPosition
  | .getCurrentPosition => .getCurrentPosition
  | .getTargetPosition => .getTargetPosition
  | .getDistanceToGo => .getDistanceToGo
  | .getSpeed => .getSpeed
  | .getMaxSpeed => .getMaxSpeed
  | .getAcceleration => .getAcceleration
  | .getStepInterval => .getStepInterval
  | .getLastStepTime => .getLastStepTime
  | .getMinPulseWidth => .getMinPulseWidth
  | .getConfig => .getConfig
  | .getStatus => .getStatus
  | .getFaultFrameLo => .getFaultFrameLo
  | .getFaultFrameHi => .getFaultFrameHi

/-- The `OPERAND` field of a command: 0 where it has no operand, a `U16` zero-extended (R94). -/
def Instr.operand : Instr → U32
  | .moveTo p => p
  | .move r => r
  | .setCurrentPosition p => p
  | .setMaxSpeed v => v
  | .setAcceleration a => a
  | .setSpeed v => v
  | .setMinPulseWidth w => w.setWidth 32
  | .runToNewPosition p => p
  | .run | .runSpeed | .runSpeedToPosition | .runToPosition
  | .getCurrentPosition | .getTargetPosition | .getDistanceToGo | .getSpeed | .getMaxSpeed | .getAcceleration
  | .getStepInterval | .getLastStepTime | .getMinPulseWidth | .getConfig | .getStatus
  | .getFaultFrameLo | .getFaultFrameHi => 0#32

/-- The frame `0xOOOOOOOO000000CC` of an operand and an opcode (R90). -/
def mkFrame (operand : U32) (opcode : BitVec 8) : Frame :=
  (operand.setWidth 64 <<< 32) ||| opcode.setWidth 64

/-- The frame of a command. -/
def encode (i : Instr) : Frame := mkFrame i.operand i.op.opcode

/-- The bytes of a frame on a transport that carries bytes, least significant first (R81, D26). -/
def frameBytes (f : Frame) : List Byte :=
  (List.range 8).map (fun n => f.extractLsb' (8 * n) 8)

/-- The operand bits a source line's operand stands for (R103). -/
def AsmOperand.bits : AsmOperand → OperandType → U32
  | .absent, _ => 0#32
  | .decimal n, .f32 => Machine.decimalF32 (decide (n < 0)) n.natAbs 0
  | .decimal n, .s32 => BitVec.ofInt 32 n
  | .decimal n, .u16 => BitVec.ofInt 32 n
  | .decimal n, .none => BitVec.ofInt 32 n
  | .hex n, _ => BitVec.ofNat 32 n
  | .floating neg digits exponent, _ => Machine.decimalF32 neg digits exponent
  | .floatBits n, _ => BitVec.ofNat 32 n
  | .inf, _ => 0x7F800000#32
  | .negInf, _ => 0xFF800000#32
  | .nan, _ => 0x7FC00000#32

/-- The assembler of R103: the frame of a well-formed source line, with `RSVD = 0`. -/
def assemble (l : AsmLine) : Option Frame :=
  if l.wellFormed then some (mkFrame (l.operand.bits l.op.operandType) l.op.opcode) else none

end Sys2Proof
end

