-- ==== Sys2Proof/Machine/Setup.lean ====
section
/-! DEFINITION. The configuration commands (spec/43_commands.md R213 to R216). Each checks its operand before its
first write (R217); the frame fault entry records is the command's own, which its encoding gives (R273). -/

namespace Sys2Proof.Machine

/-- `SET_MAX_SPEED v` (R213), with any parameters. -/
def setMaxSpeedWith (P : Config.Params) (v : F32) (s : State) : Host.Outcome State Fault Refusal :=
  if maxSpeedRefused v then .next (raiseFault .invalidMaxSpeed (encode (.setMaxSpeed v)) s)
  else .next (respond 0#32 (computeNewSpeed P (setMaxSpeed v s)))

/-- `SET_MAX_SPEED v` (R213). -/
def execSetMaxSpeed (v : F32) (s : State) : Host.Outcome State Fault Refusal := setMaxSpeedWith params v s

/-- `SET_ACCELERATION a` (R214), with any parameters. -/
def setAccelerationWith (P : Config.Params) (a : F32) (s : State) : Host.Outcome State Fault Refusal :=
  if accelerationRefused a then .next (raiseFault .invalidAcceleration (encode (.setAcceleration a)) s)
  else .next (respond 0#32 (computeNewSpeed P (setAccel a s)))

/-- `SET_ACCELERATION a` (R214). -/
def execSetAcceleration (a : F32) (s : State) : Host.Outcome State Fault Refusal := setAccelerationWith params a s

/-- `SET_SPEED v` (R215), with any parameters: no recomputation of the profile. -/
def setSpeedWith (P : Config.Params) (v : F32) (s : State) : Host.Outcome State Fault Refusal :=
  if speedRefused v then .next (raiseFault .invalidSpeed (encode (.setSpeed v)) s)
  else .next (respond 0#32 (applySpeed P v s))

/-- `SET_SPEED v` (R215). -/
def execSetSpeed (v : F32) (s : State) : Host.Outcome State Fault Refusal := setSpeedWith params v s

/-- `SET_MIN_PULSE_WIDTH w` (R216): no recomputation of the profile. -/
def execSetMinPulseWidth (w : U16) (s : State) : Host.Outcome State Fault Refusal :=
  .next (respond 0#32 (setMinPulseWidth w s))

end Sys2Proof.Machine
end

