-- ==== Sys2Proof/Machine/Targets.lean ====
section
/-! DEFINITION. The commands that set targets (spec/43_commands.md R210 to R212). -/

namespace Sys2Proof.Machine

/-- `MOVE_TO p` (R210), with any parameters. -/
def moveToWith (P : Config.Params) (p : S32) (s : State) : Host.Outcome State Fault Refusal :=
  .next (respond 0#32 (computeNewSpeed P (setTgtPos p s)))

/-- `MOVE_TO p` (R210). -/
def execMoveTo (p : S32) (s : State) : Host.Outcome State Fault Refusal := moveToWith params p s

/-- `MOVE r` (R211), with any parameters: the offset is from `CUR_POS`, and the sum wraps. -/
def moveWith (P : Config.Params) (r : S32) (s : State) : Host.Outcome State Fault Refusal :=
  .next (respond 0#32 (computeNewSpeed P (setTgtPos (s.curPos + r) s)))

/-- `MOVE r` (R211). -/
def execMove (r : S32) (s : State) : Host.Outcome State Fault Refusal := moveWith params r s

/-- `SET_CURRENT_POSITION p` (R212), with any parameters. -/
def setCurrentPositionWith (P : Config.Params) (p : S32) (s : State) : Host.Outcome State Fault Refusal :=
  .next (respond 0#32 (computeNewSpeed P (setTgtPos p (setCurPos p s))))

/-- `SET_CURRENT_POSITION p` (R212). -/
def execSetCurrentPosition (p : S32) (s : State) : Host.Outcome State Fault Refusal := setCurrentPositionWith params p s

end Sys2Proof.Machine
end

