-- ==== Sys2Proof/Machine/Dispatch.lean ====
section
/-! DEFINITION. Which meaning each command has: the rule of spec/30_encoding.md R95's table, one arm per
constructor. -/

namespace Sys2Proof.Machine

def exec (i : Instr) (s : State) : Host.Outcome State Fault Refusal :=
  match i with
  | .moveTo p => Sys2Proof.Machine.execMoveTo p s
  | .move r => Sys2Proof.Machine.execMove r s
  | .setCurrentPosition p => Sys2Proof.Machine.execSetCurrentPosition p s
  | .setMaxSpeed v => Sys2Proof.Machine.execSetMaxSpeed v s
  | .setAcceleration a => Sys2Proof.Machine.execSetAcceleration a s
  | .setSpeed v => Sys2Proof.Machine.execSetSpeed v s
  | .setMinPulseWidth w => Sys2Proof.Machine.execSetMinPulseWidth w s
  | .run => Sys2Proof.Machine.execRun s
  | .runSpeed => Sys2Proof.Machine.execRunSpeed s
  | .runSpeedToPosition => Sys2Proof.Machine.execRunSpeedToPosition s
  | .runToPosition => Sys2Proof.Machine.execRunToPosition s
  | .runToNewPosition p => Sys2Proof.Machine.execRunToNewPosition p s
  | .getCurrentPosition => Sys2Proof.Machine.execGetCurrentPosition s
  | .getTargetPosition => Sys2Proof.Machine.execGetTargetPosition s
  | .getDistanceToGo => Sys2Proof.Machine.execGetDistanceToGo s
  | .getSpeed => Sys2Proof.Machine.execGetSpeed s
  | .getMaxSpeed => Sys2Proof.Machine.execGetMaxSpeed s
  | .getAcceleration => Sys2Proof.Machine.execGetAcceleration s
  | .getStepInterval => Sys2Proof.Machine.execGetStepInterval s
  | .getLastStepTime => Sys2Proof.Machine.execGetLastStepTime s
  | .getMinPulseWidth => Sys2Proof.Machine.execGetMinPulseWidth s
  | .getConfig => Sys2Proof.Machine.execGetConfig s
  | .getStatus => Sys2Proof.Machine.execGetStatus s
  | .getFaultFrameLo => Sys2Proof.Machine.execGetFaultFrameLo s
  | .getFaultFrameHi => Sys2Proof.Machine.execGetFaultFrameHi s

end Sys2Proof.Machine
end

