-- ==== Sys2Proof/Machine/Reset.lean ====
section
/-! DEFINITION. Reset (spec/70_reset_and_hazards.md R300, R301; spec/60_exceptions.md R271). The only way out of the
faulted state (R277) and out of a blocking command that never ends (R226). -/

namespace Sys2Proof.Machine

open Sys2Proof.Config

/-- The pins a topology uses (R41); none for a value outside {0, 1, 2, 4, 8} (R301). -/
def usedPins (t : BitVec 4) : Pins :=
  if t = 1#4 ∨ t = 2#4 then { p1 := true, p2 := true, p3 := false, p4 := false }
  else if t = 4#4 ∨ t = 8#4 then { p1 := true, p2 := true, p3 := true, p4 := true }
  else { p1 := false, p2 := false, p3 := false, p4 := false }

/-- The registers after reset, before the strap check (R300). The boundary stays: reset does not touch the clock
(R76), emits no event and sends no response. -/
def resetRegisters (strap : BitVec 4) (s : State) : State where
  curPos := 0x00000000#32
  tgtPos := 0x00000000#32
  speed := 0x00000000#32
  maxSpeed := 0x3F800000#32
  accel := 0x3F800000#32
  stepInterval := 0x00000000#32
  lastStepTime := 0x00000000#32
  minPulseWidth := 0x0001#16
  config := strap.setWidth 32
  pin := pinDraw s.source s.resets
  oe := usedPins strap
  status := 0x00000000#32
  faultFrame := 0x0000000000000000#64
  seq := .idle
  host := s.host
  clockIn := s.clockIn
  samples := s.samples
  resets := s.resets + 1
  waits := s.waits
  source := s.source
  log := s.log

/-- `RESET(strap)` (R300): the reset values, then fault code 1 for an illegal strap, without a response (R271). -/
def resetCore (strap : BitVec 4) (s : State) : State :=
  if legalTopology strap then resetRegisters strap s
  else recordFault .invalidTopology 0#64 (resetRegisters strap s)

/-- Not a response word. -/
def isNoResponse : Output → Bool
  | .response _ => false
  | .pin _ _ => true
  | .wait _ => true
  | .strobe _ => true
  | .sample _ => true
  | .held _ => true

/-- What an abandoned piece of work leaves of what it would have added to the log: at most `n` entries, none of them
from its response on (R300). -/
def abandonedPart (n : Nat) (added : List Output) : List Output := (added.takeWhile isNoResponse).take n

/-- Reset asserted while work that would lead from `s` to `done` goes on (R300, D36). Reset gives every register of the
core its reset value, so nothing of the work is left but what passed the boundary before it. -/
def resetDuringWork (strap : BitVec 4) (n : Nat) (s done : State) : State :=
  resetCore strap { done with log := s.log ++ abandonedPart n (done.log.drop s.log.length) }

end Sys2Proof.Machine
end

