-- ==== Sys2Proof/Machine/Port.lean ====
section
/-! DEFINITION. The command port (spec/20_memory.md R72, R73) and dispatch (spec/30_encoding.md R97): what a step of
the machine calls. -/

namespace Sys2Proof.Machine

/-- The read-back commands, opcodes 0x20 to 0x2C (R98): the ones a faulted core still performs. -/
def isReadBack (i : Instr) : Bool := decide (0x20 ≤ i.op.opcode.toNat) && decide (i.op.opcode.toNat ≤ 0x2C)

/-- What performs a decoded command: `exec`, or `execWith P` for other parameters (R7). -/
abbrev Performer := Instr → State → Host.Outcome State Fault Refusal

/-- `dispatch(f)` of R97; `perform` performs a command. -/
def dispatchBy (perform : Performer) (f : Frame) (s : State) : Host.Outcome State Fault Refusal :=
  match decode f with
  | .error _ => if s.faulted then .next (respond 0#32 s) else .next (raiseFault .illegalCommand f s)
  | .ok i => if s.faulted && !isReadBack i then .next (respond 0#32 s) else perform i s

/-- The port accepts a frame: it leaves the host's list, and the samples annotated to it are the ones the environment
will supply while the command runs (R72, R103). -/
def acceptFrame (now : List U32) (s : State) : State := { s with host := s.host.tail, clockIn := now }

/-- The host's move is over. -/
def dropMove (s : State) : State := { s with host := s.host.tail }

/-- A step of the core on which the host makes no move: an iteration of the blocking command in progress, or nothing
while the core waits for the next frame (R225, R302). -/
def coreStepBy (P : Config.Params) (s : State) : Host.Outcome State Fault Refusal :=
  match s.seq with
  | .idle => .next s
  | .busyRtp => rtpIterate P s

/-- What the core does next where no reset comes: a frame is dispatched when the port is open (R72); while a blocking
command runs it stays with the host, neither lost nor executed (R73). Where a reset comes next, nothing. -/
def workStepBy (P : Config.Params) (perform : Performer) (s : State) : Host.Outcome State Fault Refusal :=
  match s.host with
  | [] => coreStepBy P s
  | .pause :: _ => coreStepBy P (dropMove s)
  | .frame f now :: _ =>
    match s.seq with
    | .idle => dispatchBy perform f (acceptFrame now s)
    | .busyRtp => rtpIterate P s
  | .reset _ :: _ => .next s
  | .resetDuring _ _ :: _ => .next s

/-- The step in which reset abandons `work`, what the core does next from `s` (R300). -/
def abandon (strap : BitVec 4) (n : Nat) (s : State) (work : Host.Outcome State Fault Refusal) :
    Host.Outcome State Fault Refusal :=
  match work with
  | .next t => .next (resetDuringWork strap n s t)
  | .fault e => .fault e
  | .refused r => .refused r

/-- One step of the core and its host. A reset comes before everything, and it may come while the core works
(R300). -/
def portStepBy (P : Config.Params) (perform : Performer) (s : State) : Host.Outcome State Fault Refusal :=
  match s.host with
  | .reset strap :: _ => .next (resetCore strap (dropMove s))
  | .resetDuring strap n :: _ => abandon strap n (dropMove s) (workStepBy P perform (dropMove s))
  | [] => workStepBy P perform s
  | .pause :: _ => workStepBy P perform s
  | .frame _ _ :: _ => workStepBy P perform s

/-- `dispatch(f)` of R97. -/
def dispatch (f : Frame) (s : State) : Host.Outcome State Fault Refusal := dispatchBy exec f s

/-- One step, with the default parameters. -/
def portStep (s : State) : Host.Outcome State Fault Refusal := portStepBy params exec s

/-- The host's move that issues the frame in the low `nbits` bits of `w`, with no clock sample annotated. -/
def frameMove (nbits w : Nat) : HostMove := .frame (BitVec.ofNat 64 (w % 2 ^ nbits)) []

/-- The state whose next step is that move: the frame comes first in the host's list, and the port is open. -/
def issueFrame (s : State) (nbits w : Nat) : State := { leaveBusy s with host := frameMove nbits w :: s.host }

/-- The host's move for a source line (R103), if the line is well-formed. -/
def lineMove (l : AsmLine) : Option HostMove :=
  (assemble l).map (fun f => .frame f (l.now.map (BitVec.ofNat 32)))

/-- A test program, a list of source lines, as the host's moves (R324). -/
def programMoves (ls : List AsmLine) : Option (List HostMove) := ls.mapM lineMove

end Sys2Proof.Machine
end

