-- ==== Sys2Proof/Machine/Step.lean ====
section
/-! DEFINITION. One step of the machine. The core fetches nothing (spec/10_state.md R31, spec/20_memory.md R89): a
step takes the host's next move, or an iteration of the blocking command in progress (Machine/Port.lean). -/

namespace Sys2Proof.Machine

/-- One step. -/
def step (s : State) : Host.Outcome State Fault Refusal := portStep s

/-- The state in which the command of the low `nbits` bits of `w` is the next one the port accepts. -/
def State.withFetchWord (s : State) (nbits w : Nat) : State := issueFrame s nbits w

end Sys2Proof.Machine
end

