-- ==== Sys2Proof/Machine/Parametric.lean ====
section
/-! DEFINITION. The machine with any parameters (spec/00_scope.md R7; spec/92_eei_decisions.md D38 to D40): `FLOAT_OPS`,
`PAT2`, `PAT4`, `PAT8` and `PIN_ORDER` are the argument `P` of every command and of the step. `exec`, `step` and
`core` are this machine with the spec's defaults (Laws/Ops.lean, `execWith_params`, `stepWith_params`). -/

namespace Sys2Proof.Machine

open Sys2Proof.Config

/-- The meaning of every command with the parameters `P`. -/
def execWith (P : Params) (i : Instr) (s : State) : Host.Outcome State Fault Refusal :=
  match i with
  | .moveTo p => moveToWith P p s
  | .move r => moveWith P r s
  | .setCurrentPosition p => setCurrentPositionWith P p s
  | .setMaxSpeed v => setMaxSpeedWith P v s
  | .setAcceleration a => setAccelerationWith P a s
  | .setSpeed v => setSpeedWith P v s
  | .setMinPulseWidth w => execSetMinPulseWidth w s
  | .run => runWith P s
  | .runSpeed => runSpeedWith P s
  | .runSpeedToPosition => runSpeedToPositionWith P s
  | .runToPosition => execRunToPosition s
  | .runToNewPosition p => runToNewPositionWith P p s
  | .getCurrentPosition => execGetCurrentPosition s
  | .getTargetPosition => execGetTargetPosition s
  | .getDistanceToGo => execGetDistanceToGo s
  | .getSpeed => execGetSpeed s
  | .getMaxSpeed => execGetMaxSpeed s
  | .getAcceleration => execGetAcceleration s
  | .getStepInterval => execGetStepInterval s
  | .getLastStepTime => execGetLastStepTime s
  | .getMinPulseWidth => execGetMinPulseWidth s
  | .getConfig => execGetConfig s
  | .getStatus => execGetStatus s
  | .getFaultFrameLo => execGetFaultFrameLo s
  | .getFaultFrameHi => execGetFaultFrameHi s

/-- One step of the machine with the parameters `P`. -/
def stepWith (P : Params) (s : State) : Host.Outcome State Fault Refusal := portStepBy P (execWith P) s

/-- The machine with the parameters `P`. -/
def coreWith (P : Params) : Host.Core :=
  { State := State, Fault := Fault, Refusal := Refusal, step := stepWith P, reset := State.reset }

end Sys2Proof.Machine
end

