-- ==== Sys2Proof/Machine/System.lean ====
section
/-! DEFINITION. A system of several cores (spec/60_exceptions.md R284, spec/20_memory.md R87): independent instances,
one per motor, that share no state. `N_CORES` is the length of the list (R7). -/

namespace Sys2Proof.Machine

/-- One step of core `k`, every other core as it was; a core that stops stops the step. `step1` is the step of one
core: `step`, or `stepWith P`. DESIGN CHOICE (notes/assumptions/19.md): the spec does not say how the draws of two cores
relate; cores whose `source` differs draw unrelated values, so a system's cores get different sources. -/
def systemStepBy (step1 : State → Host.Outcome State Fault Refusal) (cores : List State) (k : Nat) :
    Host.Outcome (List State) Fault Refusal :=
  match cores[k]? with
  | none => .next cores
  | some s =>
    match step1 s with
    | .next t => .next (cores.set k t)
    | .fault e => .fault e
    | .refused r => .refused r

/-- A step of a system of cores with the default parameters. -/
def systemStep (cores : List State) (k : Nat) : Host.Outcome (List State) Fault Refusal := systemStepBy step cores k

/-- A system of `n` cores after reset, each with its own source of draws. -/
def systemReset (n : Nat) : List State :=
  (List.range n).map (fun k => { State.reset with source := k, pin := Config.pinDraw k 0 })

end Sys2Proof.Machine
end

