-- ==== Sys2Proof/Safety.lean ====
section
/-! DEFINITION. What claims are stated in terms of: the invariant of every state a run reaches (spec/10_state.md R35,
R36, R40 to R45, R48; spec/60_exceptions.md R273, R276), the motion states of R47, the start and the end of a run
(spec/70_reset_and_hazards.md R324, R325), and the clock premise (spec/20_memory.md R77). Nothing here takes part in a
step. -/

namespace Sys2Proof.Machine

open Sys2Proof.Config

/-! ### The registers of the profile engine -/

/-- `MAX_SPEED` is finite and `>= 0` (R35), `ACCEL` finite and `> 0` (R36), and
`-MAX_SPEED <= SPEED <= MAX_SPEED` (R48.1): the premises of R129. -/
structure RegistersLegal (s : State) : Prop where
  maxSpeed_finite : isFinite s.maxSpeed = true
  maxSpeed_nonneg : fle plusZero s.maxSpeed = true
  accel_finite : isFinite s.accel = true
  accel_pos : flt plusZero s.accel = true
  speed_above : fle (fneg s.maxSpeed) s.speed = true
  speed_below : fle s.speed s.maxSpeed = true

/-! ### The fault record -/

/-- The value of `STATUS` with a given `BUSY` and no fault, or with one recorded cause: `FAULTED` (bit 1), the cause
bit (bit 7 + code) and `FIRST_CAUSE` (bits 19:16); every reserved bit is 0 (R42). -/
def statusValue : Bool → Option Cause → BitVec 32
  | false, none => 0x00000000#32
  | true, none => 0x00000001#32
  | _, some .invalidTopology => 0x00010102#32
  | _, some .invalidAcceleration => 0x00020202#32
  | _, some .invalidMaxSpeed => 0x00030402#32
  | _, some .invalidSpeed => 0x00040802#32
  | _, some .illegalCommand => 0x00051002#32

/-- `FAULT_FRAME` holds a frame whose command faults with the recorded cause; it is 0 without a fault and after a
fault at reset (R43, R270). -/
def frameFits (f : Frame) : Option Cause → Prop
  | none => f = 0#64
  | some .invalidTopology => f = 0#64
  | some .invalidAcceleration => ∃ a, decode f = .ok (.setAcceleration a) ∧ accelerationRefused a = true
  | some .invalidMaxSpeed => ∃ v, decode f = .ok (.setMaxSpeed v) ∧ maxSpeedRefused v = true
  | some .invalidSpeed => ∃ v, decode f = .ok (.setSpeed v) ∧ speedRefused v = true
  | some .illegalCommand => ∃ e, decode f = .error e

/-! ### The invariant -/

/-- What holds of every state a run reaches. -/
structure Inv (s : State) : Prop where
  /-- the motion registers are in range (R35, R36, R48.1) -/
  legal : RegistersLegal s
  /-- `STEP_INTERVAL == interval_of(SPEED)` (R48.2) -/
  interval : s.stepInterval = intervalOf params s.speed
  /-- `CONFIG[31:4]` reads as 0 (R40) -/
  configReserved : s.config.extractLsb' 4 28 = 0#28
  /-- the outputs enabled are those of the topology (R301) -/
  enables : s.oe = usedPins s.topology
  /-- `STATUS` shows the sequencer (R45) and at most one cause, which `FIRST_CAUSE` names (R276); a faulted core is
  idle (R273); the core is faulted with code 1 exactly when the strap is illegal (R271) -/
  status : ∃ c : Option Cause, s.status = statusValue (decide (s.seq = .busyRtp)) c ∧
    (c ≠ none → s.seq = .idle) ∧ (c = some .invalidTopology ↔ legalTopology s.topology = false) ∧
    frameFits s.faultFrame c

/-! ### Motion states (R47) -/

/-- `Idle`: at target and at rest. -/
def MotionIdle (s : State) : Prop := s.curPos = s.tgtPos ∧ feq s.speed plusZero = true

/-- `Cruising`: not at target, at full speed. -/
def MotionCruising (s : State) : Prop := s.curPos ≠ s.tgtPos ∧ feq (fabs s.speed) s.maxSpeed = true

/-- Accelerating or decelerating: the other states that are not at target. -/
def MotionChanging (s : State) : Prop := s.curPos ≠ s.tgtPos ∧ ¬ MotionCruising s

/-- The fifth combination: at target with a speed. -/
def AtTargetWithSpeed (s : State) : Prop := s.curPos = s.tgtPos ∧ feq s.speed plusZero = false

/-! ### Views of what left the core -/

/-- The events of the output trace (R78 to R80). -/
def isEvent : Output → Bool
  | .pin _ _ => true
  | .wait _ => true
  | .strobe _ => true
  | .response _ => false
  | .sample _ => false
  | .held _ => false

/-- The events in a log, in order. -/
def eventsOf (l : List Output) : List Output := l.filter isEvent

/-- The response word of an entry (R96). -/
def responseIn : Output → Option U32
  | .response v => some v
  | .pin _ _ => none
  | .wait _ => none
  | .strobe _ => none
  | .sample _ => none
  | .held _ => none

/-- The response words in a log, in order. -/
def responsesOf (l : List Output) : List U32 := l.filterMap responseIn

/-! ### Runs -/

/-- `CLEAN_RESET(topology)` (R325): the registers reset leaves with a legal strap, the port open. -/
def CleanReset (topology : BitVec 4) (s : State) : Prop :=
  legalTopology topology = true ∧ ∃ t, s = resetCore topology t

/-- A run has ended when the last frame has its response and `SEQ = IDLE` (R324). -/
def RunEnded (s : State) : Prop := s.host = [] ∧ s.seq = .idle

/-- It ended normally, and not faulted (R324). -/
def EndedNormally (s : State) : Prop := RunEnded s ∧ s.faulted = false

/-- A step that takes the machine on. -/
def Completes (o : Host.Outcome State Fault Refusal) : Prop := ∃ t, o = .next t

/-! ### The clock premise -/

/-- The log from here on fits a clock that counts real microseconds: `now` is a real time that has passed, and `last`
the real time of the last sample. A sample is the real time at which it is taken, modulo 2^32; time does not go back;
less than 2^32 microseconds pass between two consecutive samples (R77); and a wait takes the time it held the core, so
a sample after it is that much later (R79). -/
def ClockFrom : Nat → Option Nat → List Output → Prop
  | _, _, [] => True
  | now, last, .sample t :: l =>
    ∃ time, now ≤ time ∧ (∀ before, last = some before → time < before + 2 ^ 32) ∧ t = BitVec.ofNat 32 time ∧
      ClockFrom time (some time) l
  | now, last, .held us :: l => ClockFrom (now + us) last l
  | now, last, .pin _ _ :: l => ClockFrom now last l
  | now, last, .wait _ :: l => ClockFrom now last l
  | now, last, .strobe _ :: l => ClockFrom now last l
  | now, last, .response _ :: l => ClockFrom now last l

/-- `CLOCK_MONOTONE` (R77), of what passed the boundary of one core. It is a premise of claims about time and no law of
the machine, which takes every sample the environment supplies. -/
def ClockMonotone (log : List Output) : Prop := ClockFrom 0 none log

end Sys2Proof.Machine
end

