-- ==== Sys2Proof/Certificates/Slice0/Obligations.lean ====
section
/-! DEFINITION. The statements for the provers. Each docstring names the rule of spec/ it formalises. The helpers
under `Sys2Proof.Claim` say in the spec's terms what a rule says of two states. -/

namespace Sys2Proof.Claim

open Sys2Proof.Machine Sys2Proof.Config

/-- `c` is one of the opcodes R99 leaves unassigned. -/
abbrev Unassigned (c : Nat) : Prop :=
  c = 0 ∨ (0x08 ≤ c ∧ c ≤ 0x0F) ∨ (0x15 ≤ c ∧ c ≤ 0x1F) ∨ (0x2D ≤ c ∧ c ≤ 0xFF)

/-- `c` is the opcode of a command without an operand (R95). -/
abbrev NoOperand (c : Nat) : Prop := (0x10 ≤ c ∧ c ≤ 0x13) ∨ (0x20 ≤ c ∧ c ≤ 0x2C)

/-- The frame is illegal (R100), read from its number: opcode the low 8 bits, `RSVD` the next 24, `OPERAND` the high
32. -/
abbrev IllegalFrame (f : Frame) : Prop :=
  Unassigned (f.toNat % 256) ∨ f.toNat / 256 % 2 ^ 24 ≠ 0 ∨
  (NoOperand (f.toNat % 256) ∧ f.toNat / 2 ^ 32 ≠ 0) ∨ (f.toNat % 256 = 0x07 ∧ f.toNat / 2 ^ 48 ≠ 0)

/-- Fault entry with this code took place between two states, the first unfaulted (R273): `STATUS`, `FAULT_FRAME` and
the response 0 are all that changed, and of `STATUS` only `FAULTED`, the cause bit and `FIRST_CAUSE`. -/
def FaultEntered (code : Nat) (s t : State) : Prop :=
  t = { s with status := t.status, faultFrame := t.faultFrame, log := s.log ++ [.response 0#32] } ∧
  t.status.getLsbD 1 = true ∧ t.status.getLsbD (7 + code) = true ∧
  (∀ n, n < 4 → t.status.getLsbD (16 + n) = code.testBit n) ∧
  (∀ n, n ≠ 1 → n ≠ 7 + code → (n < 16 ∨ 20 ≤ n) → t.status.getLsbD n = s.status.getLsbD n)

/-- `APPLY_SPEED(v)` on `s` left the speed and interval of `t` (R130). -/
def SpeedApplied (v : F32) (s t : State) : Prop :=
  if feq v s.speed = true ∧ fle (fneg s.maxSpeed) s.speed = true ∧ fle s.speed s.maxSpeed = true then
    t.speed = s.speed ∧ t.stepInterval = s.stepInterval
  else
    t.stepInterval = intervalOf params t.speed ∧
    (flt plusZero v = true ∧ flt s.maxSpeed v = true → t.speed = s.maxSpeed) ∧
    (flt v plusZero = true ∧ flt v (fneg s.maxSpeed) = true → t.speed = fneg s.maxSpeed) ∧
    (¬ (flt plusZero v = true ∧ flt s.maxSpeed v = true) →
      ¬ (flt v plusZero = true ∧ flt v (fneg s.maxSpeed) = true) → t.speed = v)

/-- `COMPUTE_NEW_SPEED()` on `s` left the speed and interval of `t` (R132). -/
def Recomputed (s t : State) : Prop := SpeedApplied (desiredSpeed params s) s t

/-- A step is due on the sample the clock gives now (R162, R165): the interval is not 0, and at least the interval
has elapsed since the last step, modulo 2^32. -/
abbrev Due (s : State) : Prop :=
  s.stepInterval ≠ 0#32 ∧ s.stepInterval.toNat ≤ (clockNow s - s.lastStepTime).toNat

/-- `SPEED` is not zero and no NaN: it has a direction. -/
abbrev Moving (s : State) : Prop := flt plusZero s.speed = true ∨ flt s.speed plusZero = true

/-- The position one step on, by the sign of `SPEED` (R166). -/
def NextPos (s : State) : S32 := if flt plusZero s.speed = true then s.curPos + 1#32 else s.curPos - 1#32

/-- The levels P1 P2 P3 P4 from four numbers 0 or 1. -/
def levels (a b c d : Nat) : Pins := { p1 := a == 1, p2 := b == 1, p3 := c == 1, p4 := d == 1 }

/-- R183's rows: the levels of P1 and P2 at a position. -/
def quadrature (pos : S32) : Level × Level :=
  match pos.toNat % 4 with
  | 0 => (false, true)
  | 1 => (true, true)
  | 2 => (true, false)
  | _ => (false, false)

/-- R184's rows. -/
def fullStep (pos : S32) : Pins :=
  match pos.toNat % 4 with
  | 0 => levels 1 0 1 0
  | 1 => levels 0 1 1 0
  | 2 => levels 0 1 0 1
  | _ => levels 1 0 0 1

/-- R185's rows. -/
def halfStep (pos : S32) : Pins :=
  match pos.toNat % 8 with
  | 0 => levels 1 0 0 0
  | 1 => levels 1 0 1 0
  | 2 => levels 0 0 1 0
  | 3 => levels 0 1 1 0
  | 4 => levels 0 1 0 0
  | 5 => levels 0 1 0 1
  | 6 => levels 0 0 0 1
  | _ => levels 1 0 0 1

/-- The four events of a step that drives all four pins in the default order (R186). -/
def fourPinEvents (v : Pins) : List Output :=
  [.pin .p1 v.p1, .pin .p2 v.p2, .pin .p3 v.p3, .pin .p4 v.p4]

/-- A step took place between `s` and `t` (R166): the position moved, the step has the time of the sample, one sample
is taken, then these pins and events were driven, and this response was sent; everything else is unchanged. -/
def SteppedTo (v : Pins) (events : List Output) (s t : State) : Prop :=
  t = { s with
        curPos := NextPos s, lastStepTime := clockNow s, pin := v, clockIn := s.clockIn.tail,
        samples := s.samples + 1, log := s.log ++ [.sample (clockNow s)] ++ events ++ [.response 1#32] }

/-- The level a table row gives a pin. -/
def rowLevel (row : Pins) : Pin → Level
  | .p1 => row.p1
  | .p2 => row.p2
  | .p3 => row.p3
  | .p4 => row.p4

/-- The events of a step that drives the pins `used` by a row, each pin once, in a pin order (R186). -/
def rowEvents (order used : List Pin) (row : Pins) : List Output :=
  (order.filter (fun p => decide (p ∈ used))).map (fun p => .pin p (rowLevel row p))

/-- One of the three commands that step at most once (R168). -/
abbrev StepsOnce (i : Instr) : Prop := i = .run ∨ i = .runSpeed ∨ i = .runSpeedToPosition

/-- The code `m` is a nearest one to `n / d` units of 2^-149, and on a tie the even one (R11). Infinity's code counts
as the power of two after the largest finite value. -/
def NearestCode (m n d : Nat) : Prop :=
  m ≤ infMag ∧ ∀ g, g ≤ infMag →
    (m < g → 2 * n ≤ (units m + units g) * d) ∧
    (g < m → (units m + units g) * d ≤ 2 * n) ∧
    (g ≠ m → 2 * n = (units m + units g) * d → m % 2 = 0)

/-- The same for the square root of `n` square units. -/
def NearestRoot (m n : Nat) : Prop :=
  m ≤ infMag ∧ ∀ g, g ≤ infMag →
    (m < g → 4 * n ≤ (units m + units g) ^ 2) ∧
    (g < m → (units m + units g) ^ 2 ≤ 4 * n) ∧
    (g ≠ m → 4 * n = (units m + units g) ^ 2 → m % 2 = 0)

/-- The registers of the core, without the boundary. -/
abbrev SameRegisters (s t : State) : Prop :=
  s.curPos = t.curPos ∧ s.tgtPos = t.tgtPos ∧ s.speed = t.speed ∧ s.maxSpeed = t.maxSpeed ∧ s.accel = t.accel ∧
  s.stepInterval = t.stepInterval ∧ s.lastStepTime = t.lastStepTime ∧ s.minPulseWidth = t.minPulseWidth ∧
  s.config = t.config ∧ s.pin = t.pin ∧ s.oe = t.oe ∧ s.status = t.status ∧ s.faultFrame = t.faultFrame ∧
  s.seq = t.seq

/-- R122, as the rule writes it: `fmul(fmul(2.0, cvt_f32(|d|)), ACCEL)` with the sign of the distance `d`. -/
def SpecEnvelope (s : State) : F32 :=
  let d := (s.tgtPos - s.curPos).toInt
  let mag := ieeeMul (ieeeMul 0x40000000#32 (cvtF32 d.natAbs)) s.accel
  if 0 < d then mag else mag ^^^ 0x80000000#32

/-- R123, as the rule writes it: `fmul(SPEED, SPEED)`, negated unless `SPEED > 0.0`. -/
def SpecSquare (s : State) : F32 :=
  if flt 0x00000000#32 s.speed = true then ieeeMul s.speed s.speed
  else ieeeMul s.speed s.speed ^^^ 0x80000000#32

/-- R124, R125: the size of one change of the speed, `fabs(fdiv(ACCEL, SPEED))`. -/
def SpecChange (s : State) : F32 := ieeeDiv s.accel s.speed &&& 0x7FFFFFFF#32

/-- R124: from rest `fsqrt(fmul(2.0, ACCEL))`, else one change up; at most `MAX_SPEED`. -/
def SpecRaised (s : State) : F32 :=
  let r := if feq s.speed 0x00000000#32 = true then ieeeSqrt (ieeeMul 0x40000000#32 s.accel)
           else ieeeAdd s.speed (SpecChange s)
  if flt s.maxSpeed r = true then s.maxSpeed else r

/-- R125: from rest the negated `fsqrt(fmul(2.0, ACCEL))`, else one change down; at least `-MAX_SPEED`. -/
def SpecLowered (s : State) : F32 :=
  let r := if feq s.speed 0x00000000#32 = true then ieeeSqrt (ieeeMul 0x40000000#32 s.accel) ^^^ 0x80000000#32
           else ieeeSub s.speed (SpecChange s)
  if flt r (s.maxSpeed ^^^ 0x80000000#32) = true then s.maxSpeed ^^^ 0x80000000#32 else r

/-- R49: the registers reset leaves with a strap; the pin latches may be anything. -/
def ResetValues (strap : BitVec 4) (t : State) : Prop :=
  t.curPos = 0#32 ∧ t.tgtPos = 0#32 ∧ t.speed = 0x00000000#32 ∧ t.maxSpeed = 0x3F800000#32 ∧
  t.accel = 0x3F800000#32 ∧ t.stepInterval = 0#32 ∧ t.lastStepTime = 0#32 ∧ t.minPulseWidth = 1#16 ∧
  t.config.toNat = strap.toNat ∧
  t.oe = (if strap = 1#4 ∨ strap = 2#4 then levels 1 1 0 0
          else if strap = 4#4 ∨ strap = 8#4 then levels 1 1 1 1 else levels 0 0 0 0) ∧
  t.status = (if strap = 0#4 ∨ strap = 1#4 ∨ strap = 2#4 ∨ strap = 4#4 ∨ strap = 8#4 then 0x00000000#32
              else 0x00010102#32) ∧
  t.faultFrame = 0#64 ∧ t.seq = .idle

/-- The host's next move is a reset, with this strap. -/
abbrev ResetNext (strap : BitVec 4) (s : State) : Prop :=
  s.host.head? = some (.reset strap) ∨ ∃ n, s.host.head? = some (.resetDuring strap n)

/-- How long the waits in a part of a log held the core, in microseconds. -/
def HeldTime : List Output → Nat
  | [] => 0
  | .held us :: l => us + HeldTime l
  | .sample _ :: l => HeldTime l
  | .pin _ _ :: l => HeldTime l
  | .wait _ :: l => HeldTime l
  | .strobe _ :: l => HeldTime l
  | .response _ :: l => HeldTime l

/-- The mirror of a state: positions and speed negated (R135). -/
def mirror (s : State) : State := { s with curPos := -s.curPos, tgtPos := -s.tgtPos, speed := fneg s.speed }

end Sys2Proof.Claim

open Sys2Proof Sys2Proof.Machine Sys2Proof.Config Sys2Proof.Claim

/-! ### Encoding (30_encoding.md) -/

/-- R90 to R97, R81: decoding the frame of any command gives it back, also through the bytes of a transport. -/
def Obligations.DecodeInvertsEncode : Prop :=
  ∀ i : Instr, decode (encode i) = .ok i ∧ decodeBytes (frameBytes (encode i)) = .ok i

/-- R90 to R97: a legal frame is the frame of the command it decodes to, so every frame has one meaning. -/
def Obligations.EncodeInvertsDecode : Prop :=
  ∀ (f : Frame) (i : Instr), decode f = .ok i → encode i = f

/-- R99: the unassigned opcodes are exactly those, 231 of the 256. -/
def Obligations.UnassignedOpcodesAreExactlyThese : Prop :=
  (∀ f : Frame, decode f = .error .unassignedOpcode ↔ Unassigned (f.toNat % 256)) ∧
  ((List.range 256).filter (fun c => decide (decode (BitVec.ofNat 64 c) = .error .unassignedOpcode))).length = 231

/-- R100: the illegal frames are exactly those four kinds; an illegal frame that an unfaulted core accepts raises
fault code 5 and records the whole frame, and changes nothing else; no float operand is illegal at decode. (`host` and
`clockIn` are the model's record of the boundary, notes/assumptions/3.md and 5.md.) -/
def Obligations.IllegalFramesRaiseCodeFive : Prop :=
  (∀ f : Frame, (∃ e, decode f = .error e) ↔ IllegalFrame f) ∧
  (∀ (f : Frame) (now : List U32) (rest : List HostMove) (s : State),
    IllegalFrame f → s.host = .frame f now :: rest → s.seq = .idle → s.faulted = false →
    ∃ t, step s = .next t ∧ FaultEntered 5 { s with host := rest, clockIn := now } t ∧ t.faultFrame = f) ∧
  (∀ f : Frame, 0x04 ≤ f.toNat % 2 ^ 32 → f.toNat % 2 ^ 32 ≤ 0x06 → ∃ i, decode f = .ok i)

/-- R105: the encoding examples. -/
def Obligations.ExampleFramesDecode : Prop :=
  decode 0x000003E800000001#64 = .ok (.moveTo 1000#32) ∧
  decode 0xFFFFFFFD00000002#64 = .ok (.move (BitVec.ofInt 32 (-3))) ∧
  decode 0x4348000000000004#64 = .ok (.setMaxSpeed 0x43480000#32) ∧
  decode 0x4248000000000005#64 = .ok (.setAcceleration 0x42480000#32) ∧
  decode 0xC120000000000006#64 = .ok (.setSpeed 0xC1200000#32) ∧
  decode 0x0000001400000007#64 = .ok (.setMinPulseWidth 20#16) ∧
  decode 0x0000000000000010#64 = .ok .run ∧
  decode 0x0000000500000014#64 = .ok (.runToNewPosition 5#32) ∧
  decode 0x000000000000002A#64 = .ok .getStatus

/-! ### The port and dispatch (20_memory.md, 30_encoding.md) -/

/-- R72, R97: a legal frame at an open port is performed by the meaning of the command it decodes to; around it the
step takes the frame from the host and makes its clock samples the next ones (the model's form of the boundary,
notes/assumptions/3.md and 5.md). -/
def Obligations.StepRunsTheDecodedCommand : Prop :=
  ∀ (s : State) (f : Frame) (now : List U32) (rest : List HostMove) (i : Instr),
    s.host = .frame f now :: rest → s.seq = .idle → decode f = .ok i →
    (s.faulted = false ∨ 0x20 ≤ f.toNat % 256) →
    step s = exec i { s with host := rest, clockIn := now }

/-- R225, R302: without a frame, an idle core waits and a busy one iterates; a pause of the host changes nothing
else (the list of moves is the model's, notes/assumptions/5.md). -/
def Obligations.StepWithoutAFrame : Prop :=
  (∀ s : State, s.host = [] → s.seq = .idle → step s = .next s) ∧
  (∀ s : State, s.host = [] → s.seq = .busyRtp → step s = rtpIterate params s) ∧
  (∀ (s : State) (rest : List HostMove), s.host = .pause :: rest → s.seq = .idle →
    step s = .next { s with host := rest }) ∧
  (∀ (s : State) (rest : List HostMove), s.host = .pause :: rest → s.seq = .busyRtp →
    step s = rtpIterate params { s with host := rest })

/-- R73: while a blocking command runs, a frame at the port is neither lost nor executed: the step is the one the core
makes with no frame there, and the frame is still there after it. -/
def Obligations.ClosedPortKeepsTheFrame : Prop :=
  ∀ (s t : State) (f : Frame) (now : List U32) (rest : List HostMove),
    s.seq = .busyRtp → s.host = .frame f now :: rest →
    (step s = .next t ↔ ∃ u, step { s with host := [] } = .next u ∧ t = { u with host := s.host })

/-- R274: a faulted core ignores every frame but a legal read-back frame, which it performs; it answers an ignored
frame with 0 and does nothing else; it stays faulted; only reset clears it; and a run that ends so has not ended
normally. (`host` and `clockIn` are the model's record of the boundary, notes/assumptions/3.md and 5.md.) -/
def Obligations.FaultedStateIsStickyAndQuiescent : Prop :=
  (∀ (s : State) (f : Frame) (now : List U32) (rest : List HostMove), s.faulted = true → s.seq = .idle →
    s.host = .frame f now :: rest → (∀ i, decode f = .ok i → f.toNat % 256 < 0x20) →
    step s = .next { s with host := rest, clockIn := now, log := s.log ++ [.response 0#32] }) ∧
  (∀ (s : State) (f : Frame) (now : List U32) (rest : List HostMove) (i : Instr), s.faulted = true →
    s.seq = .idle → s.host = .frame f now :: rest → decode f = .ok i → 0x20 ≤ f.toNat % 256 →
    step s = exec i { s with host := rest, clockIn := now }) ∧
  (∀ (s t : State), s.faulted = true → s.seq = .idle → (∀ strap, ¬ ResetNext strap s) → step s = .next t →
    t = { s with host := t.host, clockIn := t.clockIn, log := t.log } ∧ eventsOf t.log = eventsOf s.log) ∧
  (∀ (s t : State) (strap : BitVec 4), ResetNext strap s → legalTopology strap = true → step s = .next t →
    t.faulted = false) ∧
  (∀ s : State, s.faulted = true → ¬ EndedNormally s)

/-! ### Reset (10_state.md R49, 70_reset_and_hazards.md R300, R301) -/

/-- R49: what reset leaves in every piece of the core's state, from any state and for every strap. The pin latches are a
draw: any levels. -/
def Obligations.ResetLeavesTheseValues : Prop :=
  (∀ (s : State) (strap : BitVec 4) (rest : List HostMove), s.host = .reset strap :: rest →
    ∃ t, step s = .next t ∧ ResetValues strap t) ∧
  (∀ (s t : State) (strap : BitVec 4), ResetNext strap s → step s = .next t → ResetValues strap t)

/-- R300, R76: reset emits no event, sends no response (also not for a blocking command it abandons), and does not touch
the clock or the host's later moves. The fields are the model's own record of the boundary (notes/assumptions/3.md,
5.md, 6.md). -/
def Obligations.ResetLeavesTheBoundary : Prop :=
  ∀ (s : State) (strap : BitVec 4) (rest : List HostMove), s.host = .reset strap :: rest →
    ∃ t, step s = .next t ∧ t.log = s.log ∧ t.host = rest ∧ t.clockIn = s.clockIn ∧ t.samples = s.samples ∧
      t.waits = s.waits ∧ t.source = s.source ∧ t.resets = s.resets + 1

/-- R300, D36: reset may come while the core works, at any place of the work: between two pin writes, in a wait, before
the response. From a state whose step without the reset leads to `t`, the registers get their reset values, and of what
the work adds to the log an initial part stays: at most `n` entries, no response, and less than `n` only where all that
comes before the response is there. (How the place is named, by `n`, is the model's form, notes/assumptions/5.md.) -/
def Obligations.ResetAbandonsTheWorkAnywhere : Prop :=
  ∀ (s t : State) (strap : BitVec 4) (n : Nat) (rest : List HostMove), s.host = .resetDuring strap n :: rest →
    (∀ k, ¬ ResetNext k { s with host := rest }) → step { s with host := rest } = .next t →
    ∃ (u : State) (part more : List Output), step s = .next u ∧ ResetValues strap u ∧ u.host = t.host ∧
      t.log = s.log ++ part ++ more ∧ u.log = s.log ++ part ∧ part.length ≤ n ∧ responsesOf part = [] ∧
      (part.length < n → more = [] ∨ ∃ v, more.head? = some (.response v))

/-- R49, R301, R302: the reset state of the model holds the values R49 gives with strap 4 (the strap is the model's
choice, notes/assumptions/1.md), and, as the host's list of moves is empty there (the model's choice,
notes/assumptions/18.md), the machine waits in it for the first frame. -/
def Obligations.ResetStateWaits : Prop :=
  ResetValues 4#4 State.reset ∧ step State.reset = .next State.reset

/-! ### The invariant -/

/-- R48, R42, R273, R276 hold after reset, with every strap, from any state. -/
def Obligations.ResetEstablishesTheInvariant : Prop :=
  Inv State.reset ∧ ∀ (strap : BitVec 4) (s : State), Inv (resetCore strap s)

/-- R48, R42, R273, R276: every step keeps the invariant. -/
def Obligations.EveryStepKeepsTheInvariant : Prop :=
  ∀ s t : State, Inv s → step s = .next t → Inv t

/-- R275, R278: no operation fails at run time: from a state that meets the invariant, every step completes, whatever
the host does. -/
def Obligations.InvariantStatesNeverStop : Prop :=
  ∀ s : State, Inv s → ∃ t, step s = .next t

/-! ### Float operations (00_scope.md R11) -/

/-- R11: `fadd`, `fsub`, `fmul`, `fdiv` and `cvt_f32` round the exact result to nearest, ties to even; overflow gives
an infinity of the right sign, as does division of a nonzero number by a zero. -/
def Obligations.ArithmeticRoundsToNearestEven : Prop :=
  (∀ a b : F32, isFinite a = true → isFinite b = true → funits a + funits b ≠ 0 →
    (fsign (ieeeAdd a b) = true ↔ funits a + funits b < 0) ∧
    NearestCode (fmag (ieeeAdd a b)) (funits a + funits b).natAbs 1) ∧
  (∀ a b : F32, ieeeSub a b = ieeeAdd a (fneg b)) ∧
  (∀ a b : F32, isFinite a = true → isFinite b = true →
    fsign (ieeeMul a b) = (fsign a != fsign b) ∧
    NearestCode (fmag (ieeeMul a b)) (units (fmag a) * units (fmag b)) (2 ^ 149)) ∧
  (∀ a b : F32, isFinite a = true → isFinite b = true → isZero b = false →
    fsign (ieeeDiv a b) = (fsign a != fsign b) ∧
    NearestCode (fmag (ieeeDiv a b)) (units (fmag a) * 2 ^ 149) (units (fmag b))) ∧
  (∀ a b : F32, isNaN a = false → isZero a = false → isZero b = true →
    isInf (ieeeDiv a b) = true ∧ fsign (ieeeDiv a b) = (fsign a != fsign b)) ∧
  (∀ n : Nat, n ≤ 2 ^ 31 → fsign (cvtF32 n) = false ∧ NearestCode (fmag (cvtF32 n)) (n * 2 ^ 149) 1)

/-- R11: `fsqrt` rounds the exact root of a number that is not negative to nearest, ties to even. -/
def Obligations.SquareRootRoundsToNearestEven : Prop :=
  ∀ a : F32, isFinite a = true → (fsign a = false ∨ isZero a = true) →
    fsign (ieeeSqrt a) = fsign a ∧ NearestRoot (fmag (ieeeSqrt a)) (units (fmag a) * 2 ^ 149)

/-- R11: the comparisons are those of the values; the zeros are equal; every comparison with a NaN is false. -/
def Obligations.ComparisonsAreThoseOfTheValues : Prop :=
  (∀ a b : F32, isFinite a = true → isFinite b = true →
    (flt a b = true ↔ funits a < funits b) ∧ (fle a b = true ↔ funits a ≤ funits b) ∧
    (feq a b = true ↔ funits a = funits b)) ∧
  feq 0x80000000#32 0x00000000#32 = true ∧
  (∀ a b : F32, isNaN a = true ∨ isNaN b = true → flt a b = false ∧ fle a b = false ∧ feq a b = false) ∧
  (∀ a b : F32, isFinite a = true → isInf b = true → (flt a b = true ↔ fsign b = false))

/-! ### The speed profile (40_profile.md) -/

/-- R129: with legal registers, `DESIRED_SPEED` returns no NaN, and a result within the maximum speed. -/
def Obligations.DesiredSpeedStaysInRange : Prop :=
  ∀ s : State, RegistersLegal s →
    isNaN (desiredSpeed params s) = false ∧ fle (fneg s.maxSpeed) (desiredSpeed params s) = true ∧
    fle (desiredSpeed params s) s.maxSpeed = true

/-- R121 to R126, with the two quantities compared written as the rules write them: at zero distance the profile yields
`+0.0`, whatever the other registers hold. Else, with legal registers: where the envelope lies above the signed square
the result is R124's value, and is not below `SPEED`; where it lies below, R125's value, and not above `SPEED`; where
neither, `SPEED` itself. (At the maximum speed the values of R124 and R125 are those of the fast path, R128.) -/
def Obligations.DesiredSpeedFollowsTheSixSteps : Prop :=
  (∀ s : State, s.curPos = s.tgtPos → desiredSpeed params s = 0x00000000#32) ∧
  ∀ s : State, RegistersLegal s → s.curPos ≠ s.tgtPos →
    (flt (SpecSquare s) (SpecEnvelope s) = true →
      desiredSpeed params s = SpecRaised s ∧ fle s.speed (desiredSpeed params s) = true) ∧
    (flt (SpecEnvelope s) (SpecSquare s) = true →
      desiredSpeed params s = SpecLowered s ∧ fle (desiredSpeed params s) s.speed = true) ∧
    (flt (SpecSquare s) (SpecEnvelope s) = false → flt (SpecEnvelope s) (SpecSquare s) = false →
      desiredSpeed params s = s.speed)

/-- R128: at the maximum speed the fast path and the generic path agree, bit for bit, in both directions. -/
def Obligations.FastPathAgreesWithGenericPath : Prop :=
  ∀ s : State, RegistersLegal s →
    (feq s.speed s.maxSpeed = true → raisedGeneric params s = s.maxSpeed) ∧
    (feq s.speed (fneg s.maxSpeed) = true → loweredGeneric params s = fneg s.maxSpeed)

/-- R135: from the mirrored state the profile gives the negated speed (as a value: a zero may keep its sign), unless
the distance is -2^31. -/
def Obligations.ProfileIsSymmetric : Prop :=
  ∀ s : State, RegistersLegal s → s.distance ≠ 0x80000000#32 →
    feq (desiredSpeed params (mirror s)) (fneg (desiredSpeed params s)) = true

/-- R131: the interval is 0 exactly at speed 0 and above 10^6 steps per second, so exactly there no step is ever due
(R162). -/
def Obligations.IntervalIsZeroExactlyOutsideTheRange : Prop :=
  ∀ v : F32, isNaN v = false →
    (intervalOf params v = 0#32 ↔ feq v plusZero = true ∨ flt million (fabs v) = true)

/-- R131: the interval is the whole part of the magnitude of `fdiv(1000000.0, v)`, the quotient rounded to binary32, where
that is below 2^32; it saturates where `10^6 / |v|` reaches 2^32; and it does not depend on the direction. -/
def Obligations.IntervalIsTheWholePartOfTheQuotient : Prop :=
  (∀ v : F32, isFinite v = true → isZero v = false →
    units (fmag (ieeeDiv 0x49742400#32 v)) < 2 ^ 32 * 2 ^ 149 →
    (intervalOf params v).toNat * 2 ^ 149 ≤ units (fmag (ieeeDiv 0x49742400#32 v)) ∧
    units (fmag (ieeeDiv 0x49742400#32 v)) < ((intervalOf params v).toNat + 1) * 2 ^ 149) ∧
  (∀ v : F32, isFinite v = true → isZero v = false → units (fmag v) * 2 ^ 32 ≤ 10 ^ 6 * 2 ^ 149 →
    intervalOf params v = 0xFFFFFFFF#32) ∧
  (∀ v : F32, isNaN v = false → intervalOf params (fneg v) = intervalOf params v)

/-- R136: a motion toward its target never passes it, keeps its direction on the way, and has speed `+0.0` on the step
that arrives; in both directions. -/
def Obligations.RunNeverPassesTheTarget : Prop :=
  (∀ s t : State, Inv s → 0 < s.distance.toInt → flt plusZero s.speed = true → exec .run s = .next t →
    t.tgtPos = s.tgtPos ∧ (t.curPos = s.curPos ∨ t.curPos = s.curPos + 1#32) ∧ 0 ≤ t.distance.toInt ∧
    (t.curPos = t.tgtPos → t.speed = 0x00000000#32) ∧ (t.curPos ≠ t.tgtPos → flt plusZero t.speed = true)) ∧
  (∀ s t : State, Inv s → s.distance.toInt < 0 → flt s.speed plusZero = true → exec .run s = .next t →
    t.tgtPos = s.tgtPos ∧ (t.curPos = s.curPos ∨ t.curPos = s.curPos - 1#32) ∧ t.distance.toInt ≤ 0 ∧
    (t.curPos = t.tgtPos → t.speed = 0x00000000#32) ∧ (t.curPos ≠ t.tgtPos → flt t.speed plusZero = true))

/-- R136, R310: a motion toward its target, in either direction, with a maximum speed of at most 10^6 can be completed:
there are clock samples with which as many `RUN` frames as the distance bring the core to its target, at rest. -/
def Obligations.PolledMotionTowardTheTargetReachesIt : Prop :=
  ∀ s : State, Inv s → s.faulted = false → s.seq = .idle → fle s.maxSpeed million = true →
    ((0 < s.distance.toInt ∧ flt plusZero s.speed = true) ∨ (s.distance.toInt < 0 ∧ flt s.speed plusZero = true)) →
    ∃ (nows : List U32) (t : State), nows.length = s.distance.toInt.natAbs ∧
      Sys2Proof.core.run nows.length
        { s with host := nows.map (fun now => HostMove.frame 0x0000000000000010#64 [now]) } = .next t ∧
      t.curPos = s.tgtPos ∧ t.tgtPos = s.tgtPos ∧ t.speed = 0x00000000#32 ∧ t.stepInterval = 0#32

/-! ### The timing gate (41_timing_gate.md) -/

/-- R160, R165: the gate in R163's and R164's two cases is the comparison of the elapsed time, modulo 2^32, with the
interval; at interval 0 it is never due. -/
def Obligations.GateMeasuresElapsedTime : Prop :=
  ∀ now last interval : U32,
    stepDue now last interval = (decide (interval ≠ 0#32) && decide (interval ≤ now - last))

/-- R6, R165, R322: let `LAST_STEP_TIME` and the sample the clock gives now be the real times `t0 <= t1`, in
microseconds, modulo 2^32, as R77's premise has it. `RUN_SPEED` responds 1 only when at least `STEP_INTERVAL` real
microseconds have passed since the last step, however long ago that was; and it does respond 1 then, if the interval is
not 0 and the clock has not gone round since the last step (R312). -/
def Obligations.NoStepBeforeItsInterval : Prop :=
  ∀ (s : State) (t0 t1 : Nat), s.lastStepTime = BitVec.ofNat 32 t0 → clockNow s = BitVec.ofNat 32 t1 → t0 ≤ t1 →
    legalTopology s.topology = true →
    ∃ t, exec .runSpeed s = .next t ∧
      (t.log.getLast? = some (.response 1#32) → s.stepInterval ≠ 0#32 ∧ t0 + s.stepInterval.toNat ≤ t1) ∧
      (t1 < t0 + 2 ^ 32 → s.stepInterval ≠ 0#32 → t0 + s.stepInterval.toNat ≤ t1 →
        t.log.getLast? = some (.response 1#32))

/-- R79, R318, under the clock premise of R77: between two consecutive samples at least the time passes that the waits
between them held the core; so with topology 1 two steps by consecutive run commands are at least `MIN_PULSE_WIDTH`
microseconds apart, whatever the interval. -/
def Obligations.PulseBoundsTheStepRate : Prop :=
  (∀ (earlier between later : List Output) (a b : U32), (∀ t, .sample t ∉ between) →
    ClockMonotone (earlier ++ [.sample a] ++ between ++ [.sample b] ++ later) →
    HeldTime between ≤ (b - a).toNat) ∧
  (∀ (i j : Instr) (now : List U32) (s t u : State), StepsOnce i → StepsOnce j → s.topology = 1#4 →
    exec i s = .next t → t.curPos ≠ s.curPos → exec j { t with clockIn := now } = .next u → u.curPos ≠ t.curPos →
    ClockMonotone u.log → s.minPulseWidth.toNat ≤ (u.lastStepTime - t.lastStepTime).toNat)

/-! ### Stepping (42_pattern.md, 43_commands.md R220 to R222) -/

/-- R221 (b), R222: at the target, `RUN` and `RUN_SPEED_TO_POSITION` respond 0, sample nothing and change nothing. -/
def Obligations.AtTargetNothingRuns : Prop :=
  ∀ s : State, s.curPos = s.tgtPos →
    exec .run s = .next { s with log := s.log ++ [.response 0#32] } ∧
    exec .runSpeedToPosition s = .next { s with log := s.log ++ [.response 0#32] }

/-- R220 to R222: when no step is due, a run command takes one clock sample and changes no register; `RUN` responds 1,
the other two 0. -/
def Obligations.NotDueTakesOneSampleOnly : Prop :=
  ∀ s : State, ¬ Due s →
    exec .runSpeed s = .next
      { s with clockIn := s.clockIn.tail, samples := s.samples + 1,
               log := s.log ++ [.sample (clockNow s), .response 0#32] } ∧
    (s.curPos ≠ s.tgtPos →
      exec .runSpeedToPosition s = .next
        { s with clockIn := s.clockIn.tail, samples := s.samples + 1,
                 log := s.log ++ [.sample (clockNow s), .response 0#32] } ∧
      exec .run s = .next
        { s with clockIn := s.clockIn.tail, samples := s.samples + 1,
                 log := s.log ++ [.sample (clockNow s), .response 1#32] })

/-- R166, R181: a due step with topology 0 emits one strobe by the direction and touches no pin. -/
def Obligations.CallbackStep : Prop :=
  ∀ s : State, s.topology = 0#4 → Due s → Moving s →
    (∃ t, exec .runSpeed s = .next t ∧
      SteppedTo s.pin [.strobe (if flt plusZero s.speed = true then .fwd else .bwd)] s t ∧
      (s.curPos ≠ s.tgtPos → exec .runSpeedToPosition s = .next t))

/-- R166, R182, R79: a due step with topology 1 sets the direction pin P2, raises P1, waits, and lowers P1, in that
order; the wait holds the core for at least `MIN_PULSE_WIDTH` microseconds. -/
def Obligations.StepAndDirectionStep : Prop :=
  ∀ s : State, s.topology = 1#4 → Due s → Moving s →
    (∃ (t : State) (excess : Nat), exec .runSpeed s = .next t ∧
      SteppedTo { s.pin with p1 := false, p2 := flt plusZero s.speed }
        [.pin .p2 (flt plusZero s.speed), .pin .p1 true, .wait s.minPulseWidth,
         .held (s.minPulseWidth.toNat + excess), .pin .p1 false]
        { s with waits := s.waits + 1 } t ∧
      (s.curPos ≠ s.tgtPos → exec .runSpeedToPosition s = .next t))

/-- R166, R183, R186 with the default `PAT2` (which the spec supplies from general knowledge): a due step with
topology 2 drives P1 and P2 only, by the new position. -/
def Obligations.TwoWireStep : Prop :=
  ∀ s : State, s.topology = 2#4 → Due s → Moving s →
    (∃ t, exec .runSpeed s = .next t ∧
      SteppedTo { s.pin with p1 := (quadrature (NextPos s)).1, p2 := (quadrature (NextPos s)).2 }
        [.pin .p1 (quadrature (NextPos s)).1, .pin .p2 (quadrature (NextPos s)).2] s t ∧
      (s.curPos ≠ s.tgtPos → exec .runSpeedToPosition s = .next t))

/-- R166, R184, R186 with the default `PAT4`: a due step with topology 4 drives all four pins, in order, by the new
position. -/
def Obligations.FullStep : Prop :=
  ∀ s : State, s.topology = 4#4 → Due s → Moving s →
    (∃ t, exec .runSpeed s = .next t ∧
      SteppedTo (fullStep (NextPos s)) (fourPinEvents (fullStep (NextPos s))) s t ∧
      (s.curPos ≠ s.tgtPos → exec .runSpeedToPosition s = .next t))

/-- R166, R185, R186 with the default `PAT8`: the same with topology 8 and the half-step table. -/
def Obligations.HalfStep : Prop :=
  ∀ s : State, s.topology = 8#4 → Due s → Moving s →
    (∃ t, exec .runSpeed s = .next t ∧
      SteppedTo (halfStep (NextPos s)) (fourPinEvents (halfStep (NextPos s))) s t ∧
      (s.curPos ≠ s.tgtPos → exec .runSpeedToPosition s = .next t))

/-- R221: a due `RUN` away from the target steps as `RUN_SPEED` does, with the response 1, and then recomputes speed
and interval. -/
def Obligations.RunStepsAndRecomputes : Prop :=
  ∀ s : State, s.curPos ≠ s.tgtPos → Due s → legalTopology s.topology = true →
    ∃ u t, exec .runSpeed s = .next u ∧ exec .run s = .next t ∧
      t = { u with speed := t.speed, stepInterval := t.stepInterval } ∧ Recomputed u t

/-- R7, R180, R186, whatever the tables and the pin order are, as far as R187 and D40 constrain them: `DRIVE_PINS` with
topology 2, 4 or 8 leaves on every pin its topology uses the level of the row the position selects, leaves the other
pins as they were, and emits one event for each pin used, with the row's level, in the order `PIN_ORDER`. A due
`RUN_SPEED` with these parameters drives the row of the new position so. -/
def Obligations.EveryTableDrivesItsRow : Prop :=
  ∀ (P : Params) (s : State), paramsLegal P = true →
    (s.topology = 2#4 → ∃ row, P.pat2[s.curPos.toNat % 4]? = some row ∧
      drivePins P s = .ok { s with pin := { s.pin with p1 := row.p1, p2 := row.p2 },
                                   log := s.log ++ rowEvents P.pinOrder [.p1, .p2] row }) ∧
    (s.topology = 4#4 → ∃ row, P.pat4[s.curPos.toNat % 4]? = some row ∧
      drivePins P s = .ok { s with pin := row, log := s.log ++ rowEvents P.pinOrder [.p1, .p2, .p3, .p4] row }) ∧
    (s.topology = 8#4 → ∃ row, P.pat8[s.curPos.toNat % 8]? = some row ∧
      drivePins P s = .ok { s with pin := row, log := s.log ++ rowEvents P.pinOrder [.p1, .p2, .p3, .p4] row }) ∧
    (Due s → Moving s →
      (s.topology = 2#4 → ∃ row t, P.pat2[(NextPos s).toNat % 4]? = some row ∧ execWith P .runSpeed s = .next t ∧
        SteppedTo { s.pin with p1 := row.p1, p2 := row.p2 } (rowEvents P.pinOrder [.p1, .p2] row) s t) ∧
      (s.topology = 4#4 → ∃ row t, P.pat4[(NextPos s).toNat % 4]? = some row ∧ execWith P .runSpeed s = .next t ∧
        SteppedTo row (rowEvents P.pinOrder [.p1, .p2, .p3, .p4] row) s t) ∧
      (s.topology = 8#4 → ∃ row t, P.pat8[(NextPos s).toNat % 8]? = some row ∧ execWith P .runSpeed s = .next t ∧
        SteppedTo row (rowEvents P.pinOrder [.p1, .p2, .p3, .p4] row) s t))

/-- R180: a topology outside {0, 1, 2, 4, 8} never reaches `DRIVE_PINS`; in the states no run reaches in which a step
is due with one, the model stops under that name (the model's choice, notes/assumptions/10.md). -/
def Obligations.UndefinedTopologyStopsAStep : Prop :=
  ∀ s : State, legalTopology s.topology = false → Due s →
    exec .runSpeed s = .fault (.driveUndefinedTopology s.topology) ∧
    (s.curPos ≠ s.tgtPos → exec .runSpeedToPosition s = .fault (.driveUndefinedTopology s.topology) ∧
      exec .run s = .fault (.driveUndefinedTopology s.topology))

/-! ### Targets (43_commands.md R210 to R212) -/

/-- R210, R211: `MOVE_TO` and `MOVE` write the target and recompute the speed at once; nothing else changes. A new
target at the current position stops the motor at once. -/
def Obligations.MoveCommandsSetTargetAndSpeed : Prop :=
  (∀ (p : S32) (s : State), ∃ t, exec (.moveTo p) s = .next t ∧
    t = { s with tgtPos := p, speed := t.speed, stepInterval := t.stepInterval,
                 log := s.log ++ [.response 0#32] } ∧
    Recomputed { s with tgtPos := p } t ∧
    (p = s.curPos → feq s.speed plusZero = false → t.speed = 0x00000000#32 ∧ t.stepInterval = 0#32)) ∧
  (∀ (r : S32) (s : State), ∃ t, exec (.move r) s = .next t ∧ exec (.moveTo (s.curPos + r)) s = .next t)

/-- R212: `SET_CURRENT_POSITION` writes both positions; a speed that is not 0 becomes `+0.0` with interval 0 in the
same command, and a zero speed stays as it is; pins and time of the last step are not touched. -/
def Obligations.SetCurrentPositionStopsTheMotor : Prop :=
  ∀ (p : S32) (s : State), ∃ t, exec (.setCurrentPosition p) s = .next t ∧
    t = { s with curPos := p, tgtPos := p, speed := t.speed, stepInterval := t.stepInterval,
                 log := s.log ++ [.response 0#32] } ∧
    (feq s.speed plusZero = false → t.speed = 0x00000000#32 ∧ t.stepInterval = 0#32) ∧
    (feq s.speed plusZero = true → fle plusZero s.maxSpeed = true →
      t.speed = s.speed ∧ t.stepInterval = s.stepInterval)

/-! ### Configuration (43_commands.md R213 to R216) -/

/-- R213: a finite operand `>= 0.0` (so also `-0.0`) becomes `MAX_SPEED`, and the speed is recomputed; nothing else
changes. -/
def Obligations.SetMaxSpeedAccepts : Prop :=
  ∀ (v : F32) (s : State), isFinite v = true → fle plusZero v = true →
    ∃ t, exec (.setMaxSpeed v) s = .next t ∧
      t = { s with maxSpeed := v, speed := t.speed, stepInterval := t.stepInterval,
                   log := s.log ++ [.response 0#32] } ∧
      Recomputed { s with maxSpeed := v } t

/-- R214: a finite operand `> 0.0` becomes `ACCEL`, and the speed is recomputed; nothing else changes. -/
def Obligations.SetAccelerationAccepts : Prop :=
  ∀ (a : F32) (s : State), isFinite a = true → flt plusZero a = true →
    ∃ t, exec (.setAcceleration a) s = .next t ∧
      t = { s with accel := a, speed := t.speed, stepInterval := t.stepInterval,
                   log := s.log ++ [.response 0#32] } ∧
      Recomputed { s with accel := a } t

/-- R215: an operand that is no NaN goes through `APPLY_SPEED`, with no recomputation of the profile; an infinity is
clamped to the maximum speed; nothing but `SPEED` and `STEP_INTERVAL` changes. -/
def Obligations.SetSpeedAppliesWithoutRecomputing : Prop :=
  (∀ (v : F32) (s : State), isNaN v = false → ∃ t, exec (.setSpeed v) s = .next t ∧
    t = { s with speed := t.speed, stepInterval := t.stepInterval, log := s.log ++ [.response 0#32] } ∧
    SpeedApplied v s t) ∧
  (∀ (s t : State), isFinite s.maxSpeed = true → fle plusZero s.maxSpeed = true →
    (exec (.setSpeed 0x7F800000#32) s = .next t → t.speed = s.maxSpeed) ∧
    (exec (.setSpeed 0xFF800000#32) s = .next t → t.speed = fneg s.maxSpeed))

/-- R213 to R215, R270, R273: every other operand raises fault code 3, 2 or 4, recording the whole frame; the register
keeps its value, and nothing else changes but the response 0. -/
def Obligations.RefusedOperandsRaiseTheirFault : Prop :=
  (∀ (v : F32) (s : State), s.faulted = false → (isFinite v = false ∨ fle plusZero v = false) →
    ∃ t, exec (.setMaxSpeed v) s = .next t ∧ FaultEntered 3 s t ∧ t.faultFrame.toNat = v.toNat * 2 ^ 32 + 0x04) ∧
  (∀ (a : F32) (s : State), s.faulted = false → (isFinite a = false ∨ flt plusZero a = false) →
    ∃ t, exec (.setAcceleration a) s = .next t ∧ FaultEntered 2 s t ∧
      t.faultFrame.toNat = a.toNat * 2 ^ 32 + 0x05) ∧
  (∀ (v : F32) (s : State), s.faulted = false → isNaN v = true →
    ∃ t, exec (.setSpeed v) s = .next t ∧ FaultEntered 4 s t ∧ t.faultFrame.toNat = v.toNat * 2 ^ 32 + 0x06)

/-- R216: every 16-bit operand becomes `MIN_PULSE_WIDTH`; nothing is recomputed and nothing else changes. -/
def Obligations.SetMinPulseWidthWritesItOnly : Prop :=
  ∀ (w : U16) (s : State), exec (.setMinPulseWidth w) s =
    .next { s with minPulseWidth := w, log := s.log ++ [.response 0#32] }

/-! ### Blocking commands (43_commands.md R223 to R226) -/

/-- R223, R224, R104, R45: `RUN_TO_POSITION` sets `SEQ` and `STATUS.BUSY` and sends no response yet;
`RUN_TO_NEW_POSITION p` leaves what `MOVE_TO p` and then `RUN_TO_POSITION` leave, without the response of the first. -/
def Obligations.BlockingCommandsCloseThePort : Prop :=
  (∀ s : State, ∃ t, exec .runToPosition s = .next t ∧ t = { s with seq := .busyRtp, status := t.status } ∧
    t.status.getLsbD 0 = true ∧ ∀ n, n ≠ 0 → t.status.getLsbD n = s.status.getLsbD n) ∧
  (∀ (p : S32) (s : State), ∃ t u v, exec (.runToNewPosition p) s = .next t ∧ exec (.moveTo p) s = .next u ∧
    exec .runToPosition u = .next v ∧ t = { v with log := s.log })

/-- R225, R226: a blocking command ends exactly on the iteration that starts at the target; that iteration samples
nothing, clears `SEQ` and `BUSY`, and sends the response 0. Every other iteration is a `RUN` without its response. -/
def Obligations.BlockingCommandEndsExactlyAtTheTarget : Prop :=
  (∀ s : State, s.host = [] → s.seq = .busyRtp → s.curPos = s.tgtPos →
    ∃ t, step s = .next t ∧ t = { s with seq := .idle, status := t.status, log := s.log ++ [.response 0#32] } ∧
      t.status.getLsbD 0 = false ∧ ∀ n, n ≠ 0 → t.status.getLsbD n = s.status.getLsbD n) ∧
  (∀ s : State, s.host = [] → s.seq = .busyRtp → s.curPos ≠ s.tgtPos → legalTopology s.topology = true →
    ∃ t, step s = .next t ∧ t.seq = .busyRtp ∧ t.status = s.status ∧
      exec .run s = .next { t with log := t.log ++ [.response 1#32] })

/-- R226, R311: a blocking command whose interval is 0 away from its target hangs for ever: after any number of steps
it is still busy, and only clock samples were taken. -/
def Obligations.ZeroIntervalHangsForever : Prop :=
  ∀ (k : Nat) (s : State), s.host = [] → s.seq = .busyRtp → s.curPos ≠ s.tgtPos → s.stepInterval = 0#32 →
    ∃ nows : List U32, nows.length = k ∧ Sys2Proof.core.run k s = .next
      { s with clockIn := s.clockIn.drop k, samples := s.samples + k, log := s.log ++ nows.map .sample }

/-- R311: in a state that meets the invariant, a maximum speed of 0 or a speed above 10^6 makes the interval 0, so
`RUN` away from the target responds 1 and no step is ever due. -/
def Obligations.StalledSpeedsNeverStep : Prop :=
  ∀ s : State, Inv s → (isZero s.maxSpeed = true ∨ flt million (fabs s.speed) = true) →
    s.stepInterval = 0#32 ∧
    (s.curPos ≠ s.tgtPos → exec .run s = .next
      { s with clockIn := s.clockIn.tail, samples := s.samples + 1,
               log := s.log ++ [.sample (clockNow s), .response 1#32] })

/-! ### Read-back (43_commands.md R227 to R239) -/

/-- R227 to R234: the read-back of the motion registers: the frame, the value, and no other change. -/
def Obligations.MotionReadBack : Prop :=
  ∀ s : State,
    (encode .getCurrentPosition = 0x0000000000000020#64 ∧
      exec .getCurrentPosition s = .next { s with log := s.log ++ [.response s.curPos] }) ∧
    (encode .getTargetPosition = 0x0000000000000021#64 ∧
      exec .getTargetPosition s = .next { s with log := s.log ++ [.response s.tgtPos] }) ∧
    (encode .getDistanceToGo = 0x0000000000000022#64 ∧
      exec .getDistanceToGo s = .next { s with log := s.log ++ [.response (s.tgtPos - s.curPos)] }) ∧
    (encode .getSpeed = 0x0000000000000023#64 ∧
      exec .getSpeed s = .next { s with log := s.log ++ [.response s.speed] }) ∧
    (encode .getMaxSpeed = 0x0000000000000024#64 ∧
      exec .getMaxSpeed s = .next { s with log := s.log ++ [.response s.maxSpeed] }) ∧
    (encode .getAcceleration = 0x0000000000000025#64 ∧
      exec .getAcceleration s = .next { s with log := s.log ++ [.response s.accel] }) ∧
    (encode .getStepInterval = 0x0000000000000026#64 ∧
      exec .getStepInterval s = .next { s with log := s.log ++ [.response s.stepInterval] }) ∧
    (encode .getLastStepTime = 0x0000000000000027#64 ∧
      exec .getLastStepTime s = .next { s with log := s.log ++ [.response s.lastStepTime] })

/-- R235 to R239: the read-back of `MIN_PULSE_WIDTH`, `CONFIG`, `STATUS` and the fault frame, likewise; and a
`GET_STATUS` that an open port accepts reads `BUSY` as 0. -/
def Obligations.StatusAndConfigReadBack : Prop :=
  (∀ s : State,
    (encode .getMinPulseWidth = 0x0000000000000028#64 ∧ ∃ v, v.toNat = s.minPulseWidth.toNat ∧
      exec .getMinPulseWidth s = .next { s with log := s.log ++ [.response v] }) ∧
    (encode .getConfig = 0x0000000000000029#64 ∧
      exec .getConfig s = .next { s with log := s.log ++ [.response s.config] }) ∧
    (encode .getStatus = 0x000000000000002A#64 ∧
      exec .getStatus s = .next { s with log := s.log ++ [.response s.status] }) ∧
    (encode .getFaultFrameLo = 0x000000000000002B#64 ∧ ∃ v, v.toNat = s.faultFrame.toNat % 2 ^ 32 ∧
      exec .getFaultFrameLo s = .next { s with log := s.log ++ [.response v] }) ∧
    (encode .getFaultFrameHi = 0x000000000000002C#64 ∧ ∃ v, v.toNat = s.faultFrame.toNat / 2 ^ 32 ∧
      exec .getFaultFrameHi s = .next { s with log := s.log ++ [.response v] })) ∧
  (∀ s : State, Inv s → s.seq = .idle → s.status.getLsbD 0 = false)

/-! ### Rules of the whole machine -/

/-- R50, R133, R48.4, R168: who writes what. No command writes `CONFIG`, an output enable, or the host's moves; each other
register is written only by the commands R50 names; a position changes otherwise only by one step in the direction of
`SPEED`, at the time of the sample taken; and a command takes at most one sample. -/
def Obligations.OnlyTheseCommandsWrite : Prop :=
  ∀ (i : Instr) (s t : State), exec i s = .next t →
    t.config = s.config ∧ t.oe = s.oe ∧ t.host = s.host ∧ t.resets = s.resets ∧ t.source = s.source ∧
    (t.maxSpeed ≠ s.maxSpeed → ∃ v, i = .setMaxSpeed v) ∧
    (t.accel ≠ s.accel → ∃ a, i = .setAcceleration a) ∧
    (t.minPulseWidth ≠ s.minPulseWidth → ∃ w, i = .setMinPulseWidth w) ∧
    (t.tgtPos ≠ s.tgtPos →
      ∃ p, i = .moveTo p ∨ i = .move p ∨ i = .setCurrentPosition p ∨ i = .runToNewPosition p) ∧
    ((t.speed ≠ s.speed ∨ t.stepInterval ≠ s.stepInterval) → i = .run ∨
      (∃ p, i = .moveTo p ∨ i = .move p ∨ i = .setCurrentPosition p ∨ i = .runToNewPosition p) ∨
      (∃ v, i = .setMaxSpeed v ∨ i = .setAcceleration v ∨ i = .setSpeed v)) ∧
    (t.curPos ≠ s.curPos → (∃ p, i = .setCurrentPosition p) ∨
      (StepsOnce i ∧ t.lastStepTime = clockNow s ∧
        ((flt plusZero s.speed = true ∧ t.curPos = s.curPos + 1#32) ∨
         (flt s.speed plusZero = true ∧ t.curPos = s.curPos - 1#32)))) ∧
    (t.lastStepTime ≠ s.lastStepTime → StepsOnce i) ∧
    (t.pin ≠ s.pin → StepsOnce i) ∧
    (t.seq ≠ s.seq → i = .runToPosition ∨ ∃ p, i = .runToNewPosition p) ∧
    (t.status ≠ s.status → i = .runToPosition ∨ (∃ p, i = .runToNewPosition p) ∨
      (∃ v, i = .setMaxSpeed v) ∨ (∃ a, i = .setAcceleration a) ∨ (∃ v, i = .setSpeed v)) ∧
    (t.faultFrame ≠ s.faultFrame →
      (∃ v, i = .setMaxSpeed v) ∨ (∃ a, i = .setAcceleration a) ∨ (∃ v, i = .setSpeed v)) ∧
    (t.waits ≠ s.waits → StepsOnce i ∧ s.topology = 1#4) ∧
    (t.clockIn ≠ s.clockIn → StepsOnce i ∧ t.clockIn = s.clockIn.tail) ∧
    (t.samples ≠ s.samples → StepsOnce i ∧ t.samples = s.samples + 1)

/-- R41: nothing in the core reads the pin latches: two states that differ in them only step to states that differ in
them only, or stop for the same reason. -/
def Obligations.PinLatchesAreNeverRead : Prop :=
  ∀ (s : State) (v : Pins),
    (∀ t, step s = .next t → ∃ w, step { s with pin := v } = .next { t with pin := w }) ∧
    (∀ e, step s = .fault e → step { s with pin := v } = .fault e)

/-- R74: a command's events come before its response, and a command that responds does so once: what a command adds to
the log is its events, none of them a response, and then at most one response. -/
def Obligations.EventsComeBeforeTheOneResponse : Prop :=
  ∀ (i : Instr) (s t : State), exec i s = .next t →
    ∃ events : List Output, responsesOf events = [] ∧
      (t.log = s.log ++ events ∨ ∃ v, t.log = s.log ++ events ++ [.response v])

/-- R84, the part that the pseudocode bears out: `SET_SPEED`, `SET_MIN_PULSE_WIDTH` and `SET_CURRENT_POSITION` repeated
with the same operand leave every register as the first left it; `MOVE_TO`, `SET_MAX_SPEED` and `SET_ACCELERATION` every
register but `SPEED` and `STEP_INTERVAL`, which R132 recomputes again. -/
def Obligations.RepeatingTheseSettersChangesNothing : Prop :=
  (∀ (i : Instr) (s t u : State),
    ((∃ v, i = .setSpeed v) ∨ (∃ w, i = .setMinPulseWidth w) ∨ (∃ p, i = .setCurrentPosition p)) →
    exec i s = .next t → exec i t = .next u → SameRegisters t u) ∧
  (∀ (i : Instr) (s t u : State),
    ((∃ p, i = .moveTo p) ∨ (∃ v, i = .setMaxSpeed v) ∨ (∃ a, i = .setAcceleration a)) →
    exec i s = .next t → exec i t = .next u →
    SameRegisters { t with speed := u.speed, stepInterval := u.stepInterval } u)

/-- R84's sentence, word for word, on `MOVE_TO`: repeating it with the same operand gives the same registers after the
first. Under R210 and R132 it is FALSE: each `MOVE_TO` recomputes the speed from the speed the one before left. -/
def Obligations.RepeatedMoveToChangesNothing : Prop :=
  ∀ (p : S32) (s t u : State), Inv s → exec (.moveTo p) s = .next t → exec (.moveTo p) t = .next u →
    SameRegisters t u

/-- The cores of a system share no state (R284, R87): a step of one leaves every other as it was, and is the step that
core makes alone. That a system is a list of cores of which one steps at a time is the model's form
(notes/assumptions/19.md). -/
def Obligations.CoresShareNoState : Prop :=
  ∀ (cores after : List State) (k : Nat), systemStep cores k = .next after →
    after.length = cores.length ∧ (∀ j, j ≠ k → after[j]? = cores[j]?) ∧
    (∀ s, cores[k]? = some s → ∃ t, step s = .next t ∧ after[k]? = some t)
end

