-- ==== Sys2Proof/Laws/Decode.lean ====
section
/-! SUPPORT. The fields of a frame built from an operand and an opcode, and the opcode map read both ways
(spec/30_encoding.md R90 to R95). -/

namespace Sys2Proof

@[simp] theorem opcodeOf_mkFrame (v : U32) (c : BitVec 8) : opcodeOf (mkFrame v c) = c := by
  ext i hi
  have h1 : i < 32 := by omega
  have h2 : i < 64 := by omega
  simp [opcodeOf, mkFrame, h1, h2, hi, ← BitVec.getLsbD_eq_getElem]

@[simp] theorem rsvdOf_mkFrame (v : U32) (c : BitVec 8) : rsvdOf (mkFrame v c) = 0#24 := by
  ext i hi
  have h1 : 8 + i < 32 := by omega
  simp [rsvdOf, mkFrame, h1]

@[simp] theorem operandOf_mkFrame (v : U32) (c : BitVec 8) : operandOf (mkFrame v c) = v := by
  ext i hi
  have h1 : 32 + i < 64 := by omega
  have h2 : i < 64 := by omega
  have h3 : c.getLsbD (32 + i) = false := BitVec.getLsbD_of_ge c _ (by omega)
  simp [operandOf, mkFrame, h1, h2, h3, hi, ← BitVec.getLsbD_eq_getElem]

/-- The opcode map of R95 read backwards is the opcode of each command. -/
@[simp] theorem ofOpcode_opcode (o : Op) : Op.ofOpcode o.opcode = some o := by
  cases o <;> rfl

/-- Only a command's own opcode selects it. -/
theorem opcode_of_ofOpcode {c : BitVec 8} {o : Op} (h : Op.ofOpcode c = some o) : o.opcode = c := by
  revert o
  revert c
  decide +kernel

/-- The operand of a command with operand bits `v`: `v` itself where the operand type takes all of it. -/
theorem operand_withOperand (o : Op) (v : U32)
    (hn : o.operandType = .none → v = 0#32) (hu : o.operandType = .u16 → v.extractLsb' 16 16 = 0#16) :
    (o.withOperand v).operand = v := by
  cases o <;> simp_all [Op.withOperand, Instr.operand, Op.operandType]
  ext i hi
  by_cases h : i < 16
  · simp [BitVec.getElem_setWidth, h, BitVec.getLsbD_eq_getElem hi]
  · have h2 : (v.extractLsb' 16 16).getLsbD (i - 16) = false := by rw [hu]; simp
    have h3 : i - 16 < 16 := by omega
    have h4 : 16 + (i - 16) = i := by omega
    simp only [BitVec.getLsbD_extractLsb', h3, decide_true, Bool.true_and, h4] at h2
    have h5 : v[i] = false := by rw [← BitVec.getLsbD_eq_getElem]; exact h2
    simp [BitVec.getElem_setWidth, h, h5]

@[simp] theorem op_withOperand (o : Op) (v : U32) : (o.withOperand v).op = o := by
  cases o <;> rfl

/-- What the decoder accepts, said once (R97, R100). -/
theorem decode_eq_ok {f : Frame} {i : Instr} (h : decode f = .ok i) :
    ∃ o, Op.ofOpcode (opcodeOf f) = some o ∧ rsvdOf f = 0#24 ∧
      (o.operandType = .none → operandOf f = 0#32) ∧
      (o.operandType = .u16 → (operandOf f).extractLsb' 16 16 = 0#16) ∧
      i = o.withOperand (operandOf f) := by
  unfold decode at h
  split at h
  · cases h
  · rename_i o ho
    split at h
    · cases h
    · split at h
      · cases h
      · split at h
        · cases h
        · rename_i h1 h2 h3
          cases h
          refine ⟨o, ho, ?_, ?_, ?_, rfl⟩
          · simpa using h1
          · intro hn
            by_contra hne
            exact h2 ⟨hn, hne⟩
          · intro hn
            by_contra hne
            exact h3 ⟨hn, hne⟩

end Sys2Proof
end

