-- ==== Sys2Proof/Laws/Float.lean ====
section
/-! SUPPORT. The small lemmas of the float primitives (spec/00_scope.md R11): what sign, magnitude code and order key
the exact operations leave, when a result is no NaN, and that the value of a code grows with the code. -/

namespace Sys2Proof.Machine

/-! ### Sign and magnitude code -/

theorem fmag_lt (a : F32) : fmag a < 2 ^ 31 := Nat.mod_lt _ (by decide)

theorem infMag_lt : infMag < 2 ^ 31 := by decide

theorem fsign_eq (a : F32) : fsign a = decide (2 ^ 31 ≤ a.toNat) := by
  have h := a.isLt
  simp only [fsign, BitVec.getLsbD, Nat.testBit_eq_decide_div_mod_eq]
  congr 1
  apply propext
  omega

theorem toNat_eq_fmag_add (a : F32) : a.toNat = (if fsign a then 2 ^ 31 else 0) + fmag a := by
  have h := a.isLt
  rw [fsign_eq]
  simp only [fmag, decide_eq_true_eq]
  split <;> omega

theorem toNat_pack (b : Bool) {m : Nat} (h : m < 2 ^ 31) :
    (pack b m).toNat = (if b then 2 ^ 31 else 0) + m := by
  cases b <;> (simp [pack]; omega)

@[simp] theorem fmag_pack (b : Bool) {m : Nat} (h : m < 2 ^ 31) : fmag (pack b m) = m := by
  simp only [fmag, toNat_pack b h]
  cases b
  · simp
    omega
  · simp
    omega

@[simp] theorem fsign_pack (b : Bool) {m : Nat} (h : m < 2 ^ 31) : fsign (pack b m) = b := by
  rw [fsign_eq, toNat_pack b h]
  cases b
  · simp
    omega
  · simp

/-- A pattern is its sign and its magnitude code. -/
theorem pack_fsign_fmag (a : F32) : pack (fsign a) (fmag a) = a := by
  apply BitVec.eq_of_toNat_eq
  rw [toNat_pack _ (fmag_lt a), toNat_eq_fmag_add a]

@[simp] theorem fmag_fneg (a : F32) : fmag (fneg a) = fmag a := by
  have h : fmag (fneg a) = (fneg a &&& 0x7FFFFFFF#32).toNat := by
    simp only [BitVec.toNat_and, BitVec.toNat_ofNat, fmag]
    exact (Nat.and_two_pow_sub_one_eq_mod _ 31).symm
  have h' : fmag a = (a &&& 0x7FFFFFFF#32).toNat := by
    simp only [BitVec.toNat_and, BitVec.toNat_ofNat, fmag]
    exact (Nat.and_two_pow_sub_one_eq_mod _ 31).symm
  rw [h, h']
  congr 1
  ext i hi
  simp only [fneg, BitVec.getElem_and, BitVec.getElem_xor]
  interval_cases i <;> simp

@[simp] theorem fsign_fneg (a : F32) : fsign (fneg a) = !fsign a := by
  simp [fsign, fneg]

@[simp] theorem fmag_fabs (a : F32) : fmag (fabs a) = fmag a := by
  simp only [fabs, fmag, BitVec.toNat_and, BitVec.toNat_ofNat]
  have h := Nat.and_two_pow_sub_one_eq_mod a.toNat 31
  norm_num at h ⊢
  rw [h]
  simp

@[simp] theorem fsign_fabs (a : F32) : fsign (fabs a) = false := by
  simp [fsign, fabs]

@[simp] theorem fneg_fneg (a : F32) : fneg (fneg a) = a := by
  simp [fneg]

/-! ### Kinds of values -/

@[simp] theorem isNaN_fneg (a : F32) : isNaN (fneg a) = isNaN a := by simp [isNaN]
@[simp] theorem isInf_fneg (a : F32) : isInf (fneg a) = isInf a := by simp [isInf]
@[simp] theorem isFinite_fneg (a : F32) : isFinite (fneg a) = isFinite a := by simp [isFinite]
@[simp] theorem isZero_fneg (a : F32) : isZero (fneg a) = isZero a := by simp [isZero]
@[simp] theorem isNaN_fabs (a : F32) : isNaN (fabs a) = isNaN a := by simp [isNaN]
@[simp] theorem isInf_fabs (a : F32) : isInf (fabs a) = isInf a := by simp [isInf]
@[simp] theorem isZero_fabs (a : F32) : isZero (fabs a) = isZero a := by simp [isZero]

theorem isNaN_of_isFinite {a : F32} (h : isFinite a = true) : isNaN a = false := by
  simp [isFinite, isNaN] at *
  omega

theorem isFinite_eq (a : F32) : isFinite a = (!isNaN a && !isInf a) := by
  rw [Bool.eq_iff_iff]
  simp [isFinite, isNaN, isInf]
  omega

/-- A result packed from a code that is not above infinity's is no NaN. -/
theorem isNaN_pack (b : Bool) {m : Nat} (h : m ≤ infMag) : isNaN (pack b m) = false := by
  have : m < 2 ^ 31 := lt_of_le_of_lt h infMag_lt
  simp [isNaN, fmag_pack b this, h]

/-! ### Comparisons -/

@[simp] theorem fkey_fneg (a : F32) : fkey (fneg a) = -fkey a := by
  simp only [fkey, fsign_fneg, fmag_fneg]
  cases fsign a <;> simp

@[simp] theorem fkey_fabs (a : F32) : fkey (fabs a) = (fmag a : Int) := by simp [fkey]

@[simp] theorem fkey_plusZero : fkey plusZero = 0 := by decide

@[simp] theorem isNaN_plusZero : isNaN plusZero = false := by decide

theorem fkey_eq_zero_iff (a : F32) : fkey a = 0 ↔ isZero a = true := by
  simp only [fkey, isZero, beq_iff_eq]
  split <;> omega

theorem feq_iff {a b : F32} : feq a b = true ↔ isNaN a = false ∧ isNaN b = false ∧ fkey a = fkey b := by
  simp [feq, and_assoc]

theorem flt_iff {a b : F32} : flt a b = true ↔ isNaN a = false ∧ isNaN b = false ∧ fkey a < fkey b := by
  simp [flt, and_assoc]

theorem fle_iff {a b : F32} : fle a b = true ↔ isNaN a = false ∧ isNaN b = false ∧ fkey a ≤ fkey b := by
  simp [fle, and_assoc]

/-- Comparisons of values that are no NaN compare the keys. -/
theorem flt_of_not_nan {a b : F32} (ha : isNaN a = false) (hb : isNaN b = false) :
    flt a b = decide (fkey a < fkey b) := by
  simp [flt, ha, hb]

theorem fle_of_not_nan {a b : F32} (ha : isNaN a = false) (hb : isNaN b = false) :
    fle a b = decide (fkey a ≤ fkey b) := by
  simp [fle, ha, hb]

theorem feq_of_not_nan {a b : F32} (ha : isNaN a = false) (hb : isNaN b = false) :
    feq a b = decide (fkey a = fkey b) := by
  simp [feq, ha, hb]

/-- Two patterns with the same key that are not both zeros are the same pattern. -/
theorem eq_of_fkey_eq {a b : F32} (h : fkey a = fkey b) (h0 : fkey a ≠ 0) : a = b := by
  rw [← pack_fsign_fmag a, ← pack_fsign_fmag b]
  simp only [fkey] at h h0
  cases ha : fsign a <;> cases hb : fsign b <;> simp [ha, hb] at h h0
  · rw [h]
  · exact absurd h.1 h0
  · exact absurd h.1 h0
  · rw [h]

/-! ### Values of codes -/

/-- The value of a code, with its exponent and significand spelled out. -/
theorem units_normal {m : Nat} (h : 2 ^ 23 ≤ m) :
    units m = (2 ^ 23 + m % 2 ^ 23) * 2 ^ (m / 2 ^ 23 - 1) := by
  rw [units, if_neg (Nat.not_lt.mpr h)]

theorem units_subnormal {m : Nat} (h : m < 2 ^ 23) : units m = m := by rw [units, if_pos h]

/-- The value grows by at least one unit from a code to the next. -/
theorem units_lt_succ (m : Nat) : units m < units (m + 1) := by
  rcases Nat.lt_or_ge (m + 1) (2 ^ 23) with h | h
  · rw [units_subnormal h, units_subnormal (by omega)]
    omega
  · rw [units_normal h]
    rcases Nat.lt_or_ge m (2 ^ 23) with h' | h'
    · rw [units_subnormal h']
      have : (m + 1) / 2 ^ 23 - 1 = 0 := by omega
      rw [this]
      omega
    · rw [units_normal h']
      rcases Nat.lt_or_ge (m % 2 ^ 23 + 1) (2 ^ 23) with h2 | h2
      · have hd : (m + 1) / 2 ^ 23 = m / 2 ^ 23 := by omega
        have hm : (m + 1) % 2 ^ 23 = m % 2 ^ 23 + 1 := by omega
        rw [hd, hm]
        exact Nat.mul_lt_mul_of_pos_right (by omega) (Nat.two_pow_pos _)
      · have hd : (m + 1) / 2 ^ 23 - 1 = (m / 2 ^ 23 - 1) + 1 := by omega
        have hm : (m + 1) % 2 ^ 23 = 0 := by omega
        have hlt : m % 2 ^ 23 < 2 ^ 23 := Nat.mod_lt _ (by decide)
        rw [hd, hm, Nat.pow_succ]
        calc (2 ^ 23 + m % 2 ^ 23) * 2 ^ (m / 2 ^ 23 - 1)
            < (2 ^ 23 * 2) * 2 ^ (m / 2 ^ 23 - 1) :=
              Nat.mul_lt_mul_of_pos_right (by omega) (Nat.two_pow_pos _)
          _ = (2 ^ 23 + 0) * (2 ^ (m / 2 ^ 23 - 1) * 2) := by ring

/-- On codes, the order of the values is the order of the codes. -/
theorem units_strictMono : StrictMono units := strictMono_nat_of_lt_succ units_lt_succ

theorem units_zero : units 0 = 0 := by decide

theorem units_pos {m : Nat} (h : 0 < m) : 0 < units m := by
  have := units_strictMono h
  omega

/-! ### Results of the operations -/

theorem roundUnits_le (n d : Nat) : roundUnits n d ≤ infMag := Nat.min_le_left _ _

theorem roundUnits_lt (n d : Nat) : roundUnits n d < 2 ^ 31 := lt_of_le_of_lt (roundUnits_le n d) infMag_lt

/-- A product of finite values is no NaN. -/
theorem ieeeMul_finite {a b : F32} (ha : isFinite a = true) (hb : isFinite b = true) :
    ieeeMul a b = pack (fsign a != fsign b) (roundUnits (units (fmag a) * units (fmag b)) (2 ^ 149)) := by
  rw [isFinite_eq] at ha hb
  simp only [Bool.and_eq_true, Bool.not_eq_true'] at ha hb
  simp [ieeeMul, ha.1, ha.2, hb.1, hb.2]

/-- A quotient of finite values with a divisor that is not zero is no NaN. -/
theorem ieeeDiv_finite {a b : F32} (ha : isFinite a = true) (hb : isFinite b = true) (h0 : isZero b = false) :
    ieeeDiv a b = pack (fsign a != fsign b) (roundUnits (units (fmag a) * 2 ^ 149) (units (fmag b))) := by
  rw [isFinite_eq] at ha hb
  simp only [Bool.and_eq_true, Bool.not_eq_true'] at ha hb
  simp [ieeeDiv, ha.1, ha.2, hb.1, hb.2, h0]

/-- A sum of finite values is no NaN. -/
theorem isNaN_ieeeAdd_finite {a b : F32} (ha : isFinite a = true) (hb : isFinite b = true) :
    isNaN (ieeeAdd a b) = false := by
  rw [isFinite_eq] at ha hb
  simp only [Bool.and_eq_true, Bool.not_eq_true'] at ha hb
  simp only [ieeeAdd, ha.1, ha.2, hb.1, hb.2, Bool.or_self, Bool.false_eq_true, if_false]
  split
  · exact isNaN_pack _ (by decide)
  · exact isNaN_pack _ (roundUnits_le _ _)

end Sys2Proof.Machine
end

