-- ==== Sys2Proof/Laws/State.lean ====
section
/-! SUPPORT. One lemma per field and operation on the state: what the field holds after the operation. Every one is
true by definition; a proof that uses them unfolds no record update. -/

namespace Sys2Proof.Machine

variable (s : State)

/-! ### setCurPos -/

@[simp] theorem setCurPos_curPos (p : S32) : (setCurPos p s).curPos = p := rfl
@[simp] theorem setCurPos_tgtPos (p : S32) : (setCurPos p s).tgtPos = s.tgtPos := rfl
@[simp] theorem setCurPos_speed (p : S32) : (setCurPos p s).speed = s.speed := rfl
@[simp] theorem setCurPos_maxSpeed (p : S32) : (setCurPos p s).maxSpeed = s.maxSpeed := rfl
@[simp] theorem setCurPos_accel (p : S32) : (setCurPos p s).accel = s.accel := rfl
@[simp] theorem setCurPos_stepInterval (p : S32) : (setCurPos p s).stepInterval = s.stepInterval := rfl
@[simp] theorem setCurPos_lastStepTime (p : S32) : (setCurPos p s).lastStepTime = s.lastStepTime := rfl
@[simp] theorem setCurPos_minPulseWidth (p : S32) : (setCurPos p s).minPulseWidth = s.minPulseWidth := rfl
@[simp] theorem setCurPos_config (p : S32) : (setCurPos p s).config = s.config := rfl
@[simp] theorem setCurPos_pin (p : S32) : (setCurPos p s).pin = s.pin := rfl
@[simp] theorem setCurPos_oe (p : S32) : (setCurPos p s).oe = s.oe := rfl
@[simp] theorem setCurPos_status (p : S32) : (setCurPos p s).status = s.status := rfl
@[simp] theorem setCurPos_faultFrame (p : S32) : (setCurPos p s).faultFrame = s.faultFrame := rfl
@[simp] theorem setCurPos_seq (p : S32) : (setCurPos p s).seq = s.seq := rfl
@[simp] theorem setCurPos_host (p : S32) : (setCurPos p s).host = s.host := rfl
@[simp] theorem setCurPos_clockIn (p : S32) : (setCurPos p s).clockIn = s.clockIn := rfl
@[simp] theorem setCurPos_samples (p : S32) : (setCurPos p s).samples = s.samples := rfl
@[simp] theorem setCurPos_resets (p : S32) : (setCurPos p s).resets = s.resets := rfl
@[simp] theorem setCurPos_waits (p : S32) : (setCurPos p s).waits = s.waits := rfl
@[simp] theorem setCurPos_source (p : S32) : (setCurPos p s).source = s.source := rfl
@[simp] theorem setCurPos_log (p : S32) : (setCurPos p s).log = s.log := rfl

/-! ### setTgtPos -/

@[simp] theorem setTgtPos_curPos (p : S32) : (setTgtPos p s).curPos = s.curPos := rfl
@[simp] theorem setTgtPos_tgtPos (p : S32) : (setTgtPos p s).tgtPos = p := rfl
@[simp] theorem setTgtPos_speed (p : S32) : (setTgtPos p s).speed = s.speed := rfl
@[simp] theorem setTgtPos_maxSpeed (p : S32) : (setTgtPos p s).maxSpeed = s.maxSpeed := rfl
@[simp] theorem setTgtPos_accel (p : S32) : (setTgtPos p s).accel = s.accel := rfl
@[simp] theorem setTgtPos_stepInterval (p : S32) : (setTgtPos p s).stepInterval = s.stepInterval := rfl
@[simp] theorem setTgtPos_lastStepTime (p : S32) : (setTgtPos p s).lastStepTime = s.lastStepTime := rfl
@[simp] theorem setTgtPos_minPulseWidth (p : S32) : (setTgtPos p s).minPulseWidth = s.minPulseWidth := rfl
@[simp] theorem setTgtPos_config (p : S32) : (setTgtPos p s).config = s.config := rfl
@[simp] theorem setTgtPos_pin (p : S32) : (setTgtPos p s).pin = s.pin := rfl
@[simp] theorem setTgtPos_oe (p : S32) : (setTgtPos p s).oe = s.oe := rfl
@[simp] theorem setTgtPos_status (p : S32) : (setTgtPos p s).status = s.status := rfl
@[simp] theorem setTgtPos_faultFrame (p : S32) : (setTgtPos p s).faultFrame = s.faultFrame := rfl
@[simp] theorem setTgtPos_seq (p : S32) : (setTgtPos p s).seq = s.seq := rfl
@[simp] theorem setTgtPos_host (p : S32) : (setTgtPos p s).host = s.host := rfl
@[simp] theorem setTgtPos_clockIn (p : S32) : (setTgtPos p s).clockIn = s.clockIn := rfl
@[simp] theorem setTgtPos_samples (p : S32) : (setTgtPos p s).samples = s.samples := rfl
@[simp] theorem setTgtPos_resets (p : S32) : (setTgtPos p s).resets = s.resets := rfl
@[simp] theorem setTgtPos_waits (p : S32) : (setTgtPos p s).waits = s.waits := rfl
@[simp] theorem setTgtPos_source (p : S32) : (setTgtPos p s).source = s.source := rfl
@[simp] theorem setTgtPos_log (p : S32) : (setTgtPos p s).log = s.log := rfl

/-! ### setSpeedPair -/

@[simp] theorem setSpeedPair_curPos (v : F32) (iv : U32) : (setSpeedPair v iv s).curPos = s.curPos := rfl
@[simp] theorem setSpeedPair_tgtPos (v : F32) (iv : U32) : (setSpeedPair v iv s).tgtPos = s.tgtPos := rfl
@[simp] theorem setSpeedPair_speed (v : F32) (iv : U32) : (setSpeedPair v iv s).speed = v := rfl
@[simp] theorem setSpeedPair_maxSpeed (v : F32) (iv : U32) : (setSpeedPair v iv s).maxSpeed = s.maxSpeed := rfl
@[simp] theorem setSpeedPair_accel (v : F32) (iv : U32) : (setSpeedPair v iv s).accel = s.accel := rfl
@[simp] theorem setSpeedPair_stepInterval (v : F32) (iv : U32) : (setSpeedPair v iv s).stepInterval = iv := rfl
@[simp] theorem setSpeedPair_lastStepTime (v : F32) (iv : U32) : (setSpeedPair v iv s).lastStepTime = s.lastStepTime := rfl
@[simp] theorem setSpeedPair_minPulseWidth (v : F32) (iv : U32) : (setSpeedPair v iv s).minPulseWidth = s.minPulseWidth := rfl
@[simp] theorem setSpeedPair_config (v : F32) (iv : U32) : (setSpeedPair v iv s).config = s.config := rfl
@[simp] theorem setSpeedPair_pin (v : F32) (iv : U32) : (setSpeedPair v iv s).pin = s.pin := rfl
@[simp] theorem setSpeedPair_oe (v : F32) (iv : U32) : (setSpeedPair v iv s).oe = s.oe := rfl
@[simp] theorem setSpeedPair_status (v : F32) (iv : U32) : (setSpeedPair v iv s).status = s.status := rfl
@[simp] theorem setSpeedPair_faultFrame (v : F32) (iv : U32) : (setSpeedPair v iv s).faultFrame = s.faultFrame := rfl
@[simp] theorem setSpeedPair_seq (v : F32) (iv : U32) : (setSpeedPair v iv s).seq = s.seq := rfl
@[simp] theorem setSpeedPair_host (v : F32) (iv : U32) : (setSpeedPair v iv s).host = s.host := rfl
@[simp] theorem setSpeedPair_clockIn (v : F32) (iv : U32) : (setSpeedPair v iv s).clockIn = s.clockIn := rfl
@[simp] theorem setSpeedPair_samples (v : F32) (iv : U32) : (setSpeedPair v iv s).samples = s.samples := rfl
@[simp] theorem setSpeedPair_resets (v : F32) (iv : U32) : (setSpeedPair v iv s).resets = s.resets := rfl
@[simp] theorem setSpeedPair_waits (v : F32) (iv : U32) : (setSpeedPair v iv s).waits = s.waits := rfl
@[simp] theorem setSpeedPair_source (v : F32) (iv : U32) : (setSpeedPair v iv s).source = s.source := rfl
@[simp] theorem setSpeedPair_log (v : F32) (iv : U32) : (setSpeedPair v iv s).log = s.log := rfl

/-! ### setMaxSpeed -/

@[simp] theorem setMaxSpeed_curPos (v : F32) : (setMaxSpeed v s).curPos = s.curPos := rfl
@[simp] theorem setMaxSpeed_tgtPos (v : F32) : (setMaxSpeed v s).tgtPos = s.tgtPos := rfl
@[simp] theorem setMaxSpeed_speed (v : F32) : (setMaxSpeed v s).speed = s.speed := rfl
@[simp] theorem setMaxSpeed_maxSpeed (v : F32) : (setMaxSpeed v s).maxSpeed = v := rfl
@[simp] theorem setMaxSpeed_accel (v : F32) : (setMaxSpeed v s).accel = s.accel := rfl
@[simp] theorem setMaxSpeed_stepInterval (v : F32) : (setMaxSpeed v s).stepInterval = s.stepInterval := rfl
@[simp] theorem setMaxSpeed_lastStepTime (v : F32) : (setMaxSpeed v s).lastStepTime = s.lastStepTime := rfl
@[simp] theorem setMaxSpeed_minPulseWidth (v : F32) : (setMaxSpeed v s).minPulseWidth = s.minPulseWidth := rfl
@[simp] theorem setMaxSpeed_config (v : F32) : (setMaxSpeed v s).config = s.config := rfl
@[simp] theorem setMaxSpeed_pin (v : F32) : (setMaxSpeed v s).pin = s.pin := rfl
@[simp] theorem setMaxSpeed_oe (v : F32) : (setMaxSpeed v s).oe = s.oe := rfl
@[simp] theorem setMaxSpeed_status (v : F32) : (setMaxSpeed v s).status = s.status := rfl
@[simp] theorem setMaxSpeed_faultFrame (v : F32) : (setMaxSpeed v s).faultFrame = s.faultFrame := rfl
@[simp] theorem setMaxSpeed_seq (v : F32) : (setMaxSpeed v s).seq = s.seq := rfl
@[simp] theorem setMaxSpeed_host (v : F32) : (setMaxSpeed v s).host = s.host := rfl
@[simp] theorem setMaxSpeed_clockIn (v : F32) : (setMaxSpeed v s).clockIn = s.clockIn := rfl
@[simp] theorem setMaxSpeed_samples (v : F32) : (setMaxSpeed v s).samples = s.samples := rfl
@[simp] theorem setMaxSpeed_resets (v : F32) : (setMaxSpeed v s).resets = s.resets := rfl
@[simp] theorem setMaxSpeed_waits (v : F32) : (setMaxSpeed v s).waits = s.waits := rfl
@[simp] theorem setMaxSpeed_source (v : F32) : (setMaxSpeed v s).source = s.source := rfl
@[simp] theorem setMaxSpeed_log (v : F32) : (setMaxSpeed v s).log = s.log := rfl

/-! ### setAccel -/

@[simp] theorem setAccel_curPos (a : F32) : (setAccel a s).curPos = s.curPos := rfl
@[simp] theorem setAccel_tgtPos (a : F32) : (setAccel a s).tgtPos = s.tgtPos := rfl
@[simp] theorem setAccel_speed (a : F32) : (setAccel a s).speed = s.speed := rfl
@[simp] theorem setAccel_maxSpeed (a : F32) : (setAccel a s).maxSpeed = s.maxSpeed := rfl
@[simp] theorem setAccel_accel (a : F32) : (setAccel a s).accel = a := rfl
@[simp] theorem setAccel_stepInterval (a : F32) : (setAccel a s).stepInterval = s.stepInterval := rfl
@[simp] theorem setAccel_lastStepTime (a : F32) : (setAccel a s).lastStepTime = s.lastStepTime := rfl
@[simp] theorem setAccel_minPulseWidth (a : F32) : (setAccel a s).minPulseWidth = s.minPulseWidth := rfl
@[simp] theorem setAccel_config (a : F32) : (setAccel a s).config = s.config := rfl
@[simp] theorem setAccel_pin (a : F32) : (setAccel a s).pin = s.pin := rfl
@[simp] theorem setAccel_oe (a : F32) : (setAccel a s).oe = s.oe := rfl
@[simp] theorem setAccel_status (a : F32) : (setAccel a s).status = s.status := rfl
@[simp] theorem setAccel_faultFrame (a : F32) : (setAccel a s).faultFrame = s.faultFrame := rfl
@[simp] theorem setAccel_seq (a : F32) : (setAccel a s).seq = s.seq := rfl
@[simp] theorem setAccel_host (a : F32) : (setAccel a s).host = s.host := rfl
@[simp] theorem setAccel_clockIn (a : F32) : (setAccel a s).clockIn = s.clockIn := rfl
@[simp] theorem setAccel_samples (a : F32) : (setAccel a s).samples = s.samples := rfl
@[simp] theorem setAccel_resets (a : F32) : (setAccel a s).resets = s.resets := rfl
@[simp] theorem setAccel_waits (a : F32) : (setAccel a s).waits = s.waits := rfl
@[simp] theorem setAccel_source (a : F32) : (setAccel a s).source = s.source := rfl
@[simp] theorem setAccel_log (a : F32) : (setAccel a s).log = s.log := rfl

/-! ### setLastStepTime -/

@[simp] theorem setLastStepTime_curPos (t : U32) : (setLastStepTime t s).curPos = s.curPos := rfl
@[simp] theorem setLastStepTime_tgtPos (t : U32) : (setLastStepTime t s).tgtPos = s.tgtPos := rfl
@[simp] theorem setLastStepTime_speed (t : U32) : (setLastStepTime t s).speed = s.speed := rfl
@[simp] theorem setLastStepTime_maxSpeed (t : U32) : (setLastStepTime t s).maxSpeed = s.maxSpeed := rfl
@[simp] theorem setLastStepTime_accel (t : U32) : (setLastStepTime t s).accel = s.accel := rfl
@[simp] theorem setLastStepTime_stepInterval (t : U32) : (setLastStepTime t s).stepInterval = s.stepInterval := rfl
@[simp] theorem setLastStepTime_lastStepTime (t : U32) : (setLastStepTime t s).lastStepTime = t := rfl
@[simp] theorem setLastStepTime_minPulseWidth (t : U32) : (setLastStepTime t s).minPulseWidth = s.minPulseWidth := rfl
@[simp] theorem setLastStepTime_config (t : U32) : (setLastStepTime t s).config = s.config := rfl
@[simp] theorem setLastStepTime_pin (t : U32) : (setLastStepTime t s).pin = s.pin := rfl
@[simp] theorem setLastStepTime_oe (t : U32) : (setLastStepTime t s).oe = s.oe := rfl
@[simp] theorem setLastStepTime_status (t : U32) : (setLastStepTime t s).status = s.status := rfl
@[simp] theorem setLastStepTime_faultFrame (t : U32) : (setLastStepTime t s).faultFrame = s.faultFrame := rfl
@[simp] theorem setLastStepTime_seq (t : U32) : (setLastStepTime t s).seq = s.seq := rfl
@[simp] theorem setLastStepTime_host (t : U32) : (setLastStepTime t s).host = s.host := rfl
@[simp] theorem setLastStepTime_clockIn (t : U32) : (setLastStepTime t s).clockIn = s.clockIn := rfl
@[simp] theorem setLastStepTime_samples (t : U32) : (setLastStepTime t s).samples = s.samples := rfl
@[simp] theorem setLastStepTime_resets (t : U32) : (setLastStepTime t s).resets = s.resets := rfl
@[simp] theorem setLastStepTime_waits (t : U32) : (setLastStepTime t s).waits = s.waits := rfl
@[simp] theorem setLastStepTime_source (t : U32) : (setLastStepTime t s).source = s.source := rfl
@[simp] theorem setLastStepTime_log (t : U32) : (setLastStepTime t s).log = s.log := rfl

/-! ### setMinPulseWidth -/

@[simp] theorem setMinPulseWidth_curPos (w : U16) : (setMinPulseWidth w s).curPos = s.curPos := rfl
@[simp] theorem setMinPulseWidth_tgtPos (w : U16) : (setMinPulseWidth w s).tgtPos = s.tgtPos := rfl
@[simp] theorem setMinPulseWidth_speed (w : U16) : (setMinPulseWidth w s).speed = s.speed := rfl
@[simp] theorem setMinPulseWidth_maxSpeed (w : U16) : (setMinPulseWidth w s).maxSpeed = s.maxSpeed := rfl
@[simp] theorem setMinPulseWidth_accel (w : U16) : (setMinPulseWidth w s).accel = s.accel := rfl
@[simp] theorem setMinPulseWidth_stepInterval (w : U16) : (setMinPulseWidth w s).stepInterval = s.stepInterval := rfl
@[simp] theorem setMinPulseWidth_lastStepTime (w : U16) : (setMinPulseWidth w s).lastStepTime = s.lastStepTime := rfl
@[simp] theorem setMinPulseWidth_minPulseWidth (w : U16) : (setMinPulseWidth w s).minPulseWidth = w := rfl
@[simp] theorem setMinPulseWidth_config (w : U16) : (setMinPulseWidth w s).config = s.config := rfl
@[simp] theorem setMinPulseWidth_pin (w : U16) : (setMinPulseWidth w s).pin = s.pin := rfl
@[simp] theorem setMinPulseWidth_oe (w : U16) : (setMinPulseWidth w s).oe = s.oe := rfl
@[simp] theorem setMinPulseWidth_status (w : U16) : (setMinPulseWidth w s).status = s.status := rfl
@[simp] theorem setMinPulseWidth_faultFrame (w : U16) : (setMinPulseWidth w s).faultFrame = s.faultFrame := rfl
@[simp] theorem setMinPulseWidth_seq (w : U16) : (setMinPulseWidth w s).seq = s.seq := rfl
@[simp] theorem setMinPulseWidth_host (w : U16) : (setMinPulseWidth w s).host = s.host := rfl
@[simp] theorem setMinPulseWidth_clockIn (w : U16) : (setMinPulseWidth w s).clockIn = s.clockIn := rfl
@[simp] theorem setMinPulseWidth_samples (w : U16) : (setMinPulseWidth w s).samples = s.samples := rfl
@[simp] theorem setMinPulseWidth_resets (w : U16) : (setMinPulseWidth w s).resets = s.resets := rfl
@[simp] theorem setMinPulseWidth_waits (w : U16) : (setMinPulseWidth w s).waits = s.waits := rfl
@[simp] theorem setMinPulseWidth_source (w : U16) : (setMinPulseWidth w s).source = s.source := rfl
@[simp] theorem setMinPulseWidth_log (w : U16) : (setMinPulseWidth w s).log = s.log := rfl

/-! ### setPin -/

@[simp] theorem setPin_curPos (v : Config.Pins) : (setPin v s).curPos = s.curPos := rfl
@[simp] theorem setPin_tgtPos (v : Config.Pins) : (setPin v s).tgtPos = s.tgtPos := rfl
@[simp] theorem setPin_speed (v : Config.Pins) : (setPin v s).speed = s.speed := rfl
@[simp] theorem setPin_maxSpeed (v : Config.Pins) : (setPin v s).maxSpeed = s.maxSpeed := rfl
@[simp] theorem setPin_accel (v : Config.Pins) : (setPin v s).accel = s.accel := rfl
@[simp] theorem setPin_stepInterval (v : Config.Pins) : (setPin v s).stepInterval = s.stepInterval := rfl
@[simp] theorem setPin_lastStepTime (v : Config.Pins) : (setPin v s).lastStepTime = s.lastStepTime := rfl
@[simp] theorem setPin_minPulseWidth (v : Config.Pins) : (setPin v s).minPulseWidth = s.minPulseWidth := rfl
@[simp] theorem setPin_config (v : Config.Pins) : (setPin v s).config = s.config := rfl
@[simp] theorem setPin_pin (v : Config.Pins) : (setPin v s).pin = v := rfl
@[simp] theorem setPin_oe (v : Config.Pins) : (setPin v s).oe = s.oe := rfl
@[simp] theorem setPin_status (v : Config.Pins) : (setPin v s).status = s.status := rfl
@[simp] theorem setPin_faultFrame (v : Config.Pins) : (setPin v s).faultFrame = s.faultFrame := rfl
@[simp] theorem setPin_seq (v : Config.Pins) : (setPin v s).seq = s.seq := rfl
@[simp] theorem setPin_host (v : Config.Pins) : (setPin v s).host = s.host := rfl
@[simp] theorem setPin_clockIn (v : Config.Pins) : (setPin v s).clockIn = s.clockIn := rfl
@[simp] theorem setPin_samples (v : Config.Pins) : (setPin v s).samples = s.samples := rfl
@[simp] theorem setPin_resets (v : Config.Pins) : (setPin v s).resets = s.resets := rfl
@[simp] theorem setPin_waits (v : Config.Pins) : (setPin v s).waits = s.waits := rfl
@[simp] theorem setPin_source (v : Config.Pins) : (setPin v s).source = s.source := rfl
@[simp] theorem setPin_log (v : Config.Pins) : (setPin v s).log = s.log := rfl

/-! ### setStatus -/

@[simp] theorem setStatus_curPos (v : BitVec 32) : (setStatus v s).curPos = s.curPos := rfl
@[simp] theorem setStatus_tgtPos (v : BitVec 32) : (setStatus v s).tgtPos = s.tgtPos := rfl
@[simp] theorem setStatus_speed (v : BitVec 32) : (setStatus v s).speed = s.speed := rfl
@[simp] theorem setStatus_maxSpeed (v : BitVec 32) : (setStatus v s).maxSpeed = s.maxSpeed := rfl
@[simp] theorem setStatus_accel (v : BitVec 32) : (setStatus v s).accel = s.accel := rfl
@[simp] theorem setStatus_stepInterval (v : BitVec 32) : (setStatus v s).stepInterval = s.stepInterval := rfl
@[simp] theorem setStatus_lastStepTime (v : BitVec 32) : (setStatus v s).lastStepTime = s.lastStepTime := rfl
@[simp] theorem setStatus_minPulseWidth (v : BitVec 32) : (setStatus v s).minPulseWidth = s.minPulseWidth := rfl
@[simp] theorem setStatus_config (v : BitVec 32) : (setStatus v s).config = s.config := rfl
@[simp] theorem setStatus_pin (v : BitVec 32) : (setStatus v s).pin = s.pin := rfl
@[simp] theorem setStatus_oe (v : BitVec 32) : (setStatus v s).oe = s.oe := rfl
@[simp] theorem setStatus_status (v : BitVec 32) : (setStatus v s).status = v := rfl
@[simp] theorem setStatus_faultFrame (v : BitVec 32) : (setStatus v s).faultFrame = s.faultFrame := rfl
@[simp] theorem setStatus_seq (v : BitVec 32) : (setStatus v s).seq = s.seq := rfl
@[simp] theorem setStatus_host (v : BitVec 32) : (setStatus v s).host = s.host := rfl
@[simp] theorem setStatus_clockIn (v : BitVec 32) : (setStatus v s).clockIn = s.clockIn := rfl
@[simp] theorem setStatus_samples (v : BitVec 32) : (setStatus v s).samples = s.samples := rfl
@[simp] theorem setStatus_resets (v : BitVec 32) : (setStatus v s).resets = s.resets := rfl
@[simp] theorem setStatus_waits (v : BitVec 32) : (setStatus v s).waits = s.waits := rfl
@[simp] theorem setStatus_source (v : BitVec 32) : (setStatus v s).source = s.source := rfl
@[simp] theorem setStatus_log (v : BitVec 32) : (setStatus v s).log = s.log := rfl

/-! ### setFaultFrame -/

@[simp] theorem setFaultFrame_curPos (f : Frame) : (setFaultFrame f s).curPos = s.curPos := rfl
@[simp] theorem setFaultFrame_tgtPos (f : Frame) : (setFaultFrame f s).tgtPos = s.tgtPos := rfl
@[simp] theorem setFaultFrame_speed (f : Frame) : (setFaultFrame f s).speed = s.speed := rfl
@[simp] theorem setFaultFrame_maxSpeed (f : Frame) : (setFaultFrame f s).maxSpeed = s.maxSpeed := rfl
@[simp] theorem setFaultFrame_accel (f : Frame) : (setFaultFrame f s).accel = s.accel := rfl
@[simp] theorem setFaultFrame_stepInterval (f : Frame) : (setFaultFrame f s).stepInterval = s.stepInterval := rfl
@[simp] theorem setFaultFrame_lastStepTime (f : Frame) : (setFaultFrame f s).lastStepTime = s.lastStepTime := rfl
@[simp] theorem setFaultFrame_minPulseWidth (f : Frame) : (setFaultFrame f s).minPulseWidth = s.minPulseWidth := rfl
@[simp] theorem setFaultFrame_config (f : Frame) : (setFaultFrame f s).config = s.config := rfl
@[simp] theorem setFaultFrame_pin (f : Frame) : (setFaultFrame f s).pin = s.pin := rfl
@[simp] theorem setFaultFrame_oe (f : Frame) : (setFaultFrame f s).oe = s.oe := rfl
@[simp] theorem setFaultFrame_status (f : Frame) : (setFaultFrame f s).status = s.status := rfl
@[simp] theorem setFaultFrame_faultFrame (f : Frame) : (setFaultFrame f s).faultFrame = f := rfl
@[simp] theorem setFaultFrame_seq (f : Frame) : (setFaultFrame f s).seq = s.seq := rfl
@[simp] theorem setFaultFrame_host (f : Frame) : (setFaultFrame f s).host = s.host := rfl
@[simp] theorem setFaultFrame_clockIn (f : Frame) : (setFaultFrame f s).clockIn = s.clockIn := rfl
@[simp] theorem setFaultFrame_samples (f : Frame) : (setFaultFrame f s).samples = s.samples := rfl
@[simp] theorem setFaultFrame_resets (f : Frame) : (setFaultFrame f s).resets = s.resets := rfl
@[simp] theorem setFaultFrame_waits (f : Frame) : (setFaultFrame f s).waits = s.waits := rfl
@[simp] theorem setFaultFrame_source (f : Frame) : (setFaultFrame f s).source = s.source := rfl
@[simp] theorem setFaultFrame_log (f : Frame) : (setFaultFrame f s).log = s.log := rfl

/-! ### setSeq -/

@[simp] theorem setSeq_curPos (q : Seq) : (setSeq q s).curPos = s.curPos := rfl
@[simp] theorem setSeq_tgtPos (q : Seq) : (setSeq q s).tgtPos = s.tgtPos := rfl
@[simp] theorem setSeq_speed (q : Seq) : (setSeq q s).speed = s.speed := rfl
@[simp] theorem setSeq_maxSpeed (q : Seq) : (setSeq q s).maxSpeed = s.maxSpeed := rfl
@[simp] theorem setSeq_accel (q : Seq) : (setSeq q s).accel = s.accel := rfl
@[simp] theorem setSeq_stepInterval (q : Seq) : (setSeq q s).stepInterval = s.stepInterval := rfl
@[simp] theorem setSeq_lastStepTime (q : Seq) : (setSeq q s).lastStepTime = s.lastStepTime := rfl
@[simp] theorem setSeq_minPulseWidth (q : Seq) : (setSeq q s).minPulseWidth = s.minPulseWidth := rfl
@[simp] theorem setSeq_config (q : Seq) : (setSeq q s).config = s.config := rfl
@[simp] theorem setSeq_pin (q : Seq) : (setSeq q s).pin = s.pin := rfl
@[simp] theorem setSeq_oe (q : Seq) : (setSeq q s).oe = s.oe := rfl
@[simp] theorem setSeq_status (q : Seq) : (setSeq q s).status = s.status := rfl
@[simp] theorem setSeq_faultFrame (q : Seq) : (setSeq q s).faultFrame = s.faultFrame := rfl
@[simp] theorem setSeq_seq (q : Seq) : (setSeq q s).seq = q := rfl
@[simp] theorem setSeq_host (q : Seq) : (setSeq q s).host = s.host := rfl
@[simp] theorem setSeq_clockIn (q : Seq) : (setSeq q s).clockIn = s.clockIn := rfl
@[simp] theorem setSeq_samples (q : Seq) : (setSeq q s).samples = s.samples := rfl
@[simp] theorem setSeq_resets (q : Seq) : (setSeq q s).resets = s.resets := rfl
@[simp] theorem setSeq_waits (q : Seq) : (setSeq q s).waits = s.waits := rfl
@[simp] theorem setSeq_source (q : Seq) : (setSeq q s).source = s.source := rfl
@[simp] theorem setSeq_log (q : Seq) : (setSeq q s).log = s.log := rfl

/-! ### emit -/

@[simp] theorem emit_curPos (o : Output) : (emit o s).curPos = s.curPos := rfl
@[simp] theorem emit_tgtPos (o : Output) : (emit o s).tgtPos = s.tgtPos := rfl
@[simp] theorem emit_speed (o : Output) : (emit o s).speed = s.speed := rfl
@[simp] theorem emit_maxSpeed (o : Output) : (emit o s).maxSpeed = s.maxSpeed := rfl
@[simp] theorem emit_accel (o : Output) : (emit o s).accel = s.accel := rfl
@[simp] theorem emit_stepInterval (o : Output) : (emit o s).stepInterval = s.stepInterval := rfl
@[simp] theorem emit_lastStepTime (o : Output) : (emit o s).lastStepTime = s.lastStepTime := rfl
@[simp] theorem emit_minPulseWidth (o : Output) : (emit o s).minPulseWidth = s.minPulseWidth := rfl
@[simp] theorem emit_config (o : Output) : (emit o s).config = s.config := rfl
@[simp] theorem emit_pin (o : Output) : (emit o s).pin = s.pin := rfl
@[simp] theorem emit_oe (o : Output) : (emit o s).oe = s.oe := rfl
@[simp] theorem emit_status (o : Output) : (emit o s).status = s.status := rfl
@[simp] theorem emit_faultFrame (o : Output) : (emit o s).faultFrame = s.faultFrame := rfl
@[simp] theorem emit_seq (o : Output) : (emit o s).seq = s.seq := rfl
@[simp] theorem emit_host (o : Output) : (emit o s).host = s.host := rfl
@[simp] theorem emit_clockIn (o : Output) : (emit o s).clockIn = s.clockIn := rfl
@[simp] theorem emit_samples (o : Output) : (emit o s).samples = s.samples := rfl
@[simp] theorem emit_resets (o : Output) : (emit o s).resets = s.resets := rfl
@[simp] theorem emit_waits (o : Output) : (emit o s).waits = s.waits := rfl
@[simp] theorem emit_source (o : Output) : (emit o s).source = s.source := rfl
@[simp] theorem emit_log (o : Output) : (emit o s).log = s.log ++ [o] := rfl

/-! ### respond -/

@[simp] theorem respond_curPos (v : U32) : (respond v s).curPos = s.curPos := rfl
@[simp] theorem respond_tgtPos (v : U32) : (respond v s).tgtPos = s.tgtPos := rfl
@[simp] theorem respond_speed (v : U32) : (respond v s).speed = s.speed := rfl
@[simp] theorem respond_maxSpeed (v : U32) : (respond v s).maxSpeed = s.maxSpeed := rfl
@[simp] theorem respond_accel (v : U32) : (respond v s).accel = s.accel := rfl
@[simp] theorem respond_stepInterval (v : U32) : (respond v s).stepInterval = s.stepInterval := rfl
@[simp] theorem respond_lastStepTime (v : U32) : (respond v s).lastStepTime = s.lastStepTime := rfl
@[simp] theorem respond_minPulseWidth (v : U32) : (respond v s).minPulseWidth = s.minPulseWidth := rfl
@[simp] theorem respond_config (v : U32) : (respond v s).config = s.config := rfl
@[simp] theorem respond_pin (v : U32) : (respond v s).pin = s.pin := rfl
@[simp] theorem respond_oe (v : U32) : (respond v s).oe = s.oe := rfl
@[simp] theorem respond_status (v : U32) : (respond v s).status = s.status := rfl
@[simp] theorem respond_faultFrame (v : U32) : (respond v s).faultFrame = s.faultFrame := rfl
@[simp] theorem respond_seq (v : U32) : (respond v s).seq = s.seq := rfl
@[simp] theorem respond_host (v : U32) : (respond v s).host = s.host := rfl
@[simp] theorem respond_clockIn (v : U32) : (respond v s).clockIn = s.clockIn := rfl
@[simp] theorem respond_samples (v : U32) : (respond v s).samples = s.samples := rfl
@[simp] theorem respond_resets (v : U32) : (respond v s).resets = s.resets := rfl
@[simp] theorem respond_waits (v : U32) : (respond v s).waits = s.waits := rfl
@[simp] theorem respond_source (v : U32) : (respond v s).source = s.source := rfl
@[simp] theorem respond_log (v : U32) : (respond v s).log = s.log ++ [.response v] := rfl

/-! ### takeSample -/

@[simp] theorem takeSample_curPos : (takeSample s).curPos = s.curPos := rfl
@[simp] theorem takeSample_tgtPos : (takeSample s).tgtPos = s.tgtPos := rfl
@[simp] theorem takeSample_speed : (takeSample s).speed = s.speed := rfl
@[simp] theorem takeSample_maxSpeed : (takeSample s).maxSpeed = s.maxSpeed := rfl
@[simp] theorem takeSample_accel : (takeSample s).accel = s.accel := rfl
@[simp] theorem takeSample_stepInterval : (takeSample s).stepInterval = s.stepInterval := rfl
@[simp] theorem takeSample_lastStepTime : (takeSample s).lastStepTime = s.lastStepTime := rfl
@[simp] theorem takeSample_minPulseWidth : (takeSample s).minPulseWidth = s.minPulseWidth := rfl
@[simp] theorem takeSample_config : (takeSample s).config = s.config := rfl
@[simp] theorem takeSample_pin : (takeSample s).pin = s.pin := rfl
@[simp] theorem takeSample_oe : (takeSample s).oe = s.oe := rfl
@[simp] theorem takeSample_status : (takeSample s).status = s.status := rfl
@[simp] theorem takeSample_faultFrame : (takeSample s).faultFrame = s.faultFrame := rfl
@[simp] theorem takeSample_seq : (takeSample s).seq = s.seq := rfl
@[simp] theorem takeSample_host : (takeSample s).host = s.host := rfl
@[simp] theorem takeSample_clockIn : (takeSample s).clockIn = s.clockIn.tail := rfl
@[simp] theorem takeSample_samples : (takeSample s).samples = s.samples + 1 := rfl
@[simp] theorem takeSample_resets : (takeSample s).resets = s.resets := rfl
@[simp] theorem takeSample_waits : (takeSample s).waits = s.waits := rfl
@[simp] theorem takeSample_source : (takeSample s).source = s.source := rfl
@[simp] theorem takeSample_log : (takeSample s).log = s.log ++ [.sample (clockNow s)] := rfl

/-! ### pinWrite -/

@[simp] theorem pinWrite_curPos (p : Config.Pin) (lv : Level) : (pinWrite p lv s).curPos = s.curPos := rfl
@[simp] theorem pinWrite_tgtPos (p : Config.Pin) (lv : Level) : (pinWrite p lv s).tgtPos = s.tgtPos := rfl
@[simp] theorem pinWrite_speed (p : Config.Pin) (lv : Level) : (pinWrite p lv s).speed = s.speed := rfl
@[simp] theorem pinWrite_maxSpeed (p : Config.Pin) (lv : Level) : (pinWrite p lv s).maxSpeed = s.maxSpeed := rfl
@[simp] theorem pinWrite_accel (p : Config.Pin) (lv : Level) : (pinWrite p lv s).accel = s.accel := rfl
@[simp] theorem pinWrite_stepInterval (p : Config.Pin) (lv : Level) : (pinWrite p lv s).stepInterval = s.stepInterval := rfl
@[simp] theorem pinWrite_lastStepTime (p : Config.Pin) (lv : Level) : (pinWrite p lv s).lastStepTime = s.lastStepTime := rfl
@[simp] theorem pinWrite_minPulseWidth (p : Config.Pin) (lv : Level) : (pinWrite p lv s).minPulseWidth = s.minPulseWidth := rfl
@[simp] theorem pinWrite_config (p : Config.Pin) (lv : Level) : (pinWrite p lv s).config = s.config := rfl
@[simp] theorem pinWrite_pin (p : Config.Pin) (lv : Level) : (pinWrite p lv s).pin = pinsSet s.pin p lv := rfl
@[simp] theorem pinWrite_oe (p : Config.Pin) (lv : Level) : (pinWrite p lv s).oe = s.oe := rfl
@[simp] theorem pinWrite_status (p : Config.Pin) (lv : Level) : (pinWrite p lv s).status = s.status := rfl
@[simp] theorem pinWrite_faultFrame (p : Config.Pin) (lv : Level) : (pinWrite p lv s).faultFrame = s.faultFrame := rfl
@[simp] theorem pinWrite_seq (p : Config.Pin) (lv : Level) : (pinWrite p lv s).seq = s.seq := rfl
@[simp] theorem pinWrite_host (p : Config.Pin) (lv : Level) : (pinWrite p lv s).host = s.host := rfl
@[simp] theorem pinWrite_clockIn (p : Config.Pin) (lv : Level) : (pinWrite p lv s).clockIn = s.clockIn := rfl
@[simp] theorem pinWrite_samples (p : Config.Pin) (lv : Level) : (pinWrite p lv s).samples = s.samples := rfl
@[simp] theorem pinWrite_resets (p : Config.Pin) (lv : Level) : (pinWrite p lv s).resets = s.resets := rfl
@[simp] theorem pinWrite_waits (p : Config.Pin) (lv : Level) : (pinWrite p lv s).waits = s.waits := rfl
@[simp] theorem pinWrite_source (p : Config.Pin) (lv : Level) : (pinWrite p lv s).source = s.source := rfl
@[simp] theorem pinWrite_log (p : Config.Pin) (lv : Level) : (pinWrite p lv s).log = s.log ++ [.pin p lv] := rfl

/-! ### wait -/

@[simp] theorem wait_curPos (us : U16) : (wait us s).curPos = s.curPos := rfl
@[simp] theorem wait_tgtPos (us : U16) : (wait us s).tgtPos = s.tgtPos := rfl
@[simp] theorem wait_speed (us : U16) : (wait us s).speed = s.speed := rfl
@[simp] theorem wait_maxSpeed (us : U16) : (wait us s).maxSpeed = s.maxSpeed := rfl
@[simp] theorem wait_accel (us : U16) : (wait us s).accel = s.accel := rfl
@[simp] theorem wait_stepInterval (us : U16) : (wait us s).stepInterval = s.stepInterval := rfl
@[simp] theorem wait_lastStepTime (us : U16) : (wait us s).lastStepTime = s.lastStepTime := rfl
@[simp] theorem wait_minPulseWidth (us : U16) : (wait us s).minPulseWidth = s.minPulseWidth := rfl
@[simp] theorem wait_config (us : U16) : (wait us s).config = s.config := rfl
@[simp] theorem wait_pin (us : U16) : (wait us s).pin = s.pin := rfl
@[simp] theorem wait_oe (us : U16) : (wait us s).oe = s.oe := rfl
@[simp] theorem wait_status (us : U16) : (wait us s).status = s.status := rfl
@[simp] theorem wait_faultFrame (us : U16) : (wait us s).faultFrame = s.faultFrame := rfl
@[simp] theorem wait_seq (us : U16) : (wait us s).seq = s.seq := rfl
@[simp] theorem wait_host (us : U16) : (wait us s).host = s.host := rfl
@[simp] theorem wait_clockIn (us : U16) : (wait us s).clockIn = s.clockIn := rfl
@[simp] theorem wait_samples (us : U16) : (wait us s).samples = s.samples := rfl
@[simp] theorem wait_resets (us : U16) : (wait us s).resets = s.resets := rfl
@[simp] theorem wait_waits (us : U16) : (wait us s).waits = s.waits + 1 := rfl
@[simp] theorem wait_source (us : U16) : (wait us s).source = s.source := rfl
@[simp] theorem wait_log (us : U16) : (wait us s).log = s.log ++ [.wait us] ++ [.held (us.toNat + Config.waitExcess s.source s.waits)] := rfl

/-! ### strobe -/

@[simp] theorem strobe_curPos (d : Strobe) : (strobe d s).curPos = s.curPos := rfl
@[simp] theorem strobe_tgtPos (d : Strobe) : (strobe d s).tgtPos = s.tgtPos := rfl
@[simp] theorem strobe_speed (d : Strobe) : (strobe d s).speed = s.speed := rfl
@[simp] theorem strobe_maxSpeed (d : Strobe) : (strobe d s).maxSpeed = s.maxSpeed := rfl
@[simp] theorem strobe_accel (d : Strobe) : (strobe d s).accel = s.accel := rfl
@[simp] theorem strobe_stepInterval (d : Strobe) : (strobe d s).stepInterval = s.stepInterval := rfl
@[simp] theorem strobe_lastStepTime (d : Strobe) : (strobe d s).lastStepTime = s.lastStepTime := rfl
@[simp] theorem strobe_minPulseWidth (d : Strobe) : (strobe d s).minPulseWidth = s.minPulseWidth := rfl
@[simp] theorem strobe_config (d : Strobe) : (strobe d s).config = s.config := rfl
@[simp] theorem strobe_pin (d : Strobe) : (strobe d s).pin = s.pin := rfl
@[simp] theorem strobe_oe (d : Strobe) : (strobe d s).oe = s.oe := rfl
@[simp] theorem strobe_status (d : Strobe) : (strobe d s).status = s.status := rfl
@[simp] theorem strobe_faultFrame (d : Strobe) : (strobe d s).faultFrame = s.faultFrame := rfl
@[simp] theorem strobe_seq (d : Strobe) : (strobe d s).seq = s.seq := rfl
@[simp] theorem strobe_host (d : Strobe) : (strobe d s).host = s.host := rfl
@[simp] theorem strobe_clockIn (d : Strobe) : (strobe d s).clockIn = s.clockIn := rfl
@[simp] theorem strobe_samples (d : Strobe) : (strobe d s).samples = s.samples := rfl
@[simp] theorem strobe_resets (d : Strobe) : (strobe d s).resets = s.resets := rfl
@[simp] theorem strobe_waits (d : Strobe) : (strobe d s).waits = s.waits := rfl
@[simp] theorem strobe_source (d : Strobe) : (strobe d s).source = s.source := rfl
@[simp] theorem strobe_log (d : Strobe) : (strobe d s).log = s.log ++ [.strobe d] := rfl

/-! ### enterBusy -/

@[simp] theorem enterBusy_curPos : (enterBusy s).curPos = s.curPos := rfl
@[simp] theorem enterBusy_tgtPos : (enterBusy s).tgtPos = s.tgtPos := rfl
@[simp] theorem enterBusy_speed : (enterBusy s).speed = s.speed := rfl
@[simp] theorem enterBusy_maxSpeed : (enterBusy s).maxSpeed = s.maxSpeed := rfl
@[simp] theorem enterBusy_accel : (enterBusy s).accel = s.accel := rfl
@[simp] theorem enterBusy_stepInterval : (enterBusy s).stepInterval = s.stepInterval := rfl
@[simp] theorem enterBusy_lastStepTime : (enterBusy s).lastStepTime = s.lastStepTime := rfl
@[simp] theorem enterBusy_minPulseWidth : (enterBusy s).minPulseWidth = s.minPulseWidth := rfl
@[simp] theorem enterBusy_config : (enterBusy s).config = s.config := rfl
@[simp] theorem enterBusy_pin : (enterBusy s).pin = s.pin := rfl
@[simp] theorem enterBusy_oe : (enterBusy s).oe = s.oe := rfl
@[simp] theorem enterBusy_status : (enterBusy s).status = withBusy true s.status := rfl
@[simp] theorem enterBusy_faultFrame : (enterBusy s).faultFrame = s.faultFrame := rfl
@[simp] theorem enterBusy_seq : (enterBusy s).seq = .busyRtp := rfl
@[simp] theorem enterBusy_host : (enterBusy s).host = s.host := rfl
@[simp] theorem enterBusy_clockIn : (enterBusy s).clockIn = s.clockIn := rfl
@[simp] theorem enterBusy_samples : (enterBusy s).samples = s.samples := rfl
@[simp] theorem enterBusy_resets : (enterBusy s).resets = s.resets := rfl
@[simp] theorem enterBusy_waits : (enterBusy s).waits = s.waits := rfl
@[simp] theorem enterBusy_source : (enterBusy s).source = s.source := rfl
@[simp] theorem enterBusy_log : (enterBusy s).log = s.log := rfl

/-! ### leaveBusy -/

@[simp] theorem leaveBusy_curPos : (leaveBusy s).curPos = s.curPos := rfl
@[simp] theorem leaveBusy_tgtPos : (leaveBusy s).tgtPos = s.tgtPos := rfl
@[simp] theorem leaveBusy_speed : (leaveBusy s).speed = s.speed := rfl
@[simp] theorem leaveBusy_maxSpeed : (leaveBusy s).maxSpeed = s.maxSpeed := rfl
@[simp] theorem leaveBusy_accel : (leaveBusy s).accel = s.accel := rfl
@[simp] theorem leaveBusy_stepInterval : (leaveBusy s).stepInterval = s.stepInterval := rfl
@[simp] theorem leaveBusy_lastStepTime : (leaveBusy s).lastStepTime = s.lastStepTime := rfl
@[simp] theorem leaveBusy_minPulseWidth : (leaveBusy s).minPulseWidth = s.minPulseWidth := rfl
@[simp] theorem leaveBusy_config : (leaveBusy s).config = s.config := rfl
@[simp] theorem leaveBusy_pin : (leaveBusy s).pin = s.pin := rfl
@[simp] theorem leaveBusy_oe : (leaveBusy s).oe = s.oe := rfl
@[simp] theorem leaveBusy_status : (leaveBusy s).status = withBusy false s.status := rfl
@[simp] theorem leaveBusy_faultFrame : (leaveBusy s).faultFrame = s.faultFrame := rfl
@[simp] theorem leaveBusy_seq : (leaveBusy s).seq = .idle := rfl
@[simp] theorem leaveBusy_host : (leaveBusy s).host = s.host := rfl
@[simp] theorem leaveBusy_clockIn : (leaveBusy s).clockIn = s.clockIn := rfl
@[simp] theorem leaveBusy_samples : (leaveBusy s).samples = s.samples := rfl
@[simp] theorem leaveBusy_resets : (leaveBusy s).resets = s.resets := rfl
@[simp] theorem leaveBusy_waits : (leaveBusy s).waits = s.waits := rfl
@[simp] theorem leaveBusy_source : (leaveBusy s).source = s.source := rfl
@[simp] theorem leaveBusy_log : (leaveBusy s).log = s.log := rfl

/-! ### recordFault -/

@[simp] theorem recordFault_curPos (c : Cause) (f : Frame) : (recordFault c f s).curPos = s.curPos := rfl
@[simp] theorem recordFault_tgtPos (c : Cause) (f : Frame) : (recordFault c f s).tgtPos = s.tgtPos := rfl
@[simp] theorem recordFault_speed (c : Cause) (f : Frame) : (recordFault c f s).speed = s.speed := rfl
@[simp] theorem recordFault_maxSpeed (c : Cause) (f : Frame) : (recordFault c f s).maxSpeed = s.maxSpeed := rfl
@[simp] theorem recordFault_accel (c : Cause) (f : Frame) : (recordFault c f s).accel = s.accel := rfl
@[simp] theorem recordFault_stepInterval (c : Cause) (f : Frame) : (recordFault c f s).stepInterval = s.stepInterval := rfl
@[simp] theorem recordFault_lastStepTime (c : Cause) (f : Frame) : (recordFault c f s).lastStepTime = s.lastStepTime := rfl
@[simp] theorem recordFault_minPulseWidth (c : Cause) (f : Frame) : (recordFault c f s).minPulseWidth = s.minPulseWidth := rfl
@[simp] theorem recordFault_config (c : Cause) (f : Frame) : (recordFault c f s).config = s.config := rfl
@[simp] theorem recordFault_pin (c : Cause) (f : Frame) : (recordFault c f s).pin = s.pin := rfl
@[simp] theorem recordFault_oe (c : Cause) (f : Frame) : (recordFault c f s).oe = s.oe := rfl
@[simp] theorem recordFault_status (c : Cause) (f : Frame) : (recordFault c f s).status = faultStatus c s.status := rfl
@[simp] theorem recordFault_faultFrame (c : Cause) (f : Frame) : (recordFault c f s).faultFrame = if s.faulted then s.faultFrame else f := rfl
@[simp] theorem recordFault_seq (c : Cause) (f : Frame) : (recordFault c f s).seq = s.seq := rfl
@[simp] theorem recordFault_host (c : Cause) (f : Frame) : (recordFault c f s).host = s.host := rfl
@[simp] theorem recordFault_clockIn (c : Cause) (f : Frame) : (recordFault c f s).clockIn = s.clockIn := rfl
@[simp] theorem recordFault_samples (c : Cause) (f : Frame) : (recordFault c f s).samples = s.samples := rfl
@[simp] theorem recordFault_resets (c : Cause) (f : Frame) : (recordFault c f s).resets = s.resets := rfl
@[simp] theorem recordFault_waits (c : Cause) (f : Frame) : (recordFault c f s).waits = s.waits := rfl
@[simp] theorem recordFault_source (c : Cause) (f : Frame) : (recordFault c f s).source = s.source := rfl
@[simp] theorem recordFault_log (c : Cause) (f : Frame) : (recordFault c f s).log = s.log := rfl

/-! ### raiseFault -/

@[simp] theorem raiseFault_curPos (c : Cause) (f : Frame) : (raiseFault c f s).curPos = s.curPos := rfl
@[simp] theorem raiseFault_tgtPos (c : Cause) (f : Frame) : (raiseFault c f s).tgtPos = s.tgtPos := rfl
@[simp] theorem raiseFault_speed (c : Cause) (f : Frame) : (raiseFault c f s).speed = s.speed := rfl
@[simp] theorem raiseFault_maxSpeed (c : Cause) (f : Frame) : (raiseFault c f s).maxSpeed = s.maxSpeed := rfl
@[simp] theorem raiseFault_accel (c : Cause) (f : Frame) : (raiseFault c f s).accel = s.accel := rfl
@[simp] theorem raiseFault_stepInterval (c : Cause) (f : Frame) : (raiseFault c f s).stepInterval = s.stepInterval := rfl
@[simp] theorem raiseFault_lastStepTime (c : Cause) (f : Frame) : (raiseFault c f s).lastStepTime = s.lastStepTime := rfl
@[simp] theorem raiseFault_minPulseWidth (c : Cause) (f : Frame) : (raiseFault c f s).minPulseWidth = s.minPulseWidth := rfl
@[simp] theorem raiseFault_config (c : Cause) (f : Frame) : (raiseFault c f s).config = s.config := rfl
@[simp] theorem raiseFault_pin (c : Cause) (f : Frame) : (raiseFault c f s).pin = s.pin := rfl
@[simp] theorem raiseFault_oe (c : Cause) (f : Frame) : (raiseFault c f s).oe = s.oe := rfl
@[simp] theorem raiseFault_status (c : Cause) (f : Frame) : (raiseFault c f s).status = faultStatus c s.status := rfl
@[simp] theorem raiseFault_faultFrame (c : Cause) (f : Frame) : (raiseFault c f s).faultFrame = if s.faulted then s.faultFrame else f := rfl
@[simp] theorem raiseFault_seq (c : Cause) (f : Frame) : (raiseFault c f s).seq = s.seq := rfl
@[simp] theorem raiseFault_host (c : Cause) (f : Frame) : (raiseFault c f s).host = s.host := rfl
@[simp] theorem raiseFault_clockIn (c : Cause) (f : Frame) : (raiseFault c f s).clockIn = s.clockIn := rfl
@[simp] theorem raiseFault_samples (c : Cause) (f : Frame) : (raiseFault c f s).samples = s.samples := rfl
@[simp] theorem raiseFault_resets (c : Cause) (f : Frame) : (raiseFault c f s).resets = s.resets := rfl
@[simp] theorem raiseFault_waits (c : Cause) (f : Frame) : (raiseFault c f s).waits = s.waits := rfl
@[simp] theorem raiseFault_source (c : Cause) (f : Frame) : (raiseFault c f s).source = s.source := rfl
@[simp] theorem raiseFault_log (c : Cause) (f : Frame) : (raiseFault c f s).log = s.log ++ [.response 0#32] := rfl

end Sys2Proof.Machine
end

