-- ==== Sys2Proof/Laws/Ops.lean ====
section
/-! SUPPORT. One lemma per shared operation that says once everything it can do, for proofs to cite instead of
unfolding it: the speed write path (spec/40_profile.md R130, R132), the pattern generator (spec/42_pattern.md R180),
the commit of a step (spec/41_timing_gate.md R166), the run bodies (spec/43_commands.md R220, R221, R225), dispatch
(spec/30_encoding.md R97) and the step. -/

namespace Sys2Proof.Machine

open Sys2Proof.Config

/-! ### The speed write path -/

/-- `APPLY_SPEED` writes `SPEED` and `STEP_INTERVAL` only, both or neither. -/
theorem applySpeed_cases (P : Params) (v : F32) (s : State) :
    (speedUnchanged v s = true ∧ applySpeed P v s = s) ∨
    (speedUnchanged v s = false ∧
      applySpeed P v s = setSpeedPair (clampSpeed s.maxSpeed v) (intervalOf P (clampSpeed s.maxSpeed v)) s) := by
  unfold applySpeed
  split
  · rename_i h
    exact .inl ⟨h, rfl⟩
  · rename_i h
    exact .inr ⟨by simpa using h, rfl⟩

/-- Every state `APPLY_SPEED` leaves differs from the one before in `SPEED` and `STEP_INTERVAL` at most. -/
theorem applySpeed_frame (P : Params) (v : F32) (s : State) :
    applySpeed P v s = setSpeedPair (applySpeed P v s).speed (applySpeed P v s).stepInterval s := by
  rcases applySpeed_cases P v s with ⟨-, h⟩ | ⟨-, h⟩ <;> rw [h] <;> rfl

/-- The same of `COMPUTE_NEW_SPEED`. -/
theorem computeNewSpeed_frame (P : Params) (s : State) :
    computeNewSpeed P s = setSpeedPair (computeNewSpeed P s).speed (computeNewSpeed P s).stepInterval s :=
  applySpeed_frame P _ s

@[simp] theorem applySpeed_curPos (P : Params) (v : F32) (s : State) : (applySpeed P v s).curPos = s.curPos := by
  rw [applySpeed_frame]; rfl
@[simp] theorem applySpeed_tgtPos (P : Params) (v : F32) (s : State) : (applySpeed P v s).tgtPos = s.tgtPos := by
  rw [applySpeed_frame]; rfl
@[simp] theorem applySpeed_maxSpeed (P : Params) (v : F32) (s : State) : (applySpeed P v s).maxSpeed = s.maxSpeed := by
  rw [applySpeed_frame]; rfl
@[simp] theorem applySpeed_accel (P : Params) (v : F32) (s : State) : (applySpeed P v s).accel = s.accel := by
  rw [applySpeed_frame]; rfl
@[simp] theorem applySpeed_lastStepTime (P : Params) (v : F32) (s : State) : (applySpeed P v s).lastStepTime = s.lastStepTime := by
  rw [applySpeed_frame]; rfl
@[simp] theorem applySpeed_minPulseWidth (P : Params) (v : F32) (s : State) : (applySpeed P v s).minPulseWidth = s.minPulseWidth := by
  rw [applySpeed_frame]; rfl
@[simp] theorem applySpeed_config (P : Params) (v : F32) (s : State) : (applySpeed P v s).config = s.config := by
  rw [applySpeed_frame]; rfl
@[simp] theorem applySpeed_pin (P : Params) (v : F32) (s : State) : (applySpeed P v s).pin = s.pin := by
  rw [applySpeed_frame]; rfl
@[simp] theorem applySpeed_oe (P : Params) (v : F32) (s : State) : (applySpeed P v s).oe = s.oe := by
  rw [applySpeed_frame]; rfl
@[simp] theorem applySpeed_status (P : Params) (v : F32) (s : State) : (applySpeed P v s).status = s.status := by
  rw [applySpeed_frame]; rfl
@[simp] theorem applySpeed_faultFrame (P : Params) (v : F32) (s : State) : (applySpeed P v s).faultFrame = s.faultFrame := by
  rw [applySpeed_frame]; rfl
@[simp] theorem applySpeed_seq (P : Params) (v : F32) (s : State) : (applySpeed P v s).seq = s.seq := by
  rw [applySpeed_frame]; rfl
@[simp] theorem applySpeed_host (P : Params) (v : F32) (s : State) : (applySpeed P v s).host = s.host := by
  rw [applySpeed_frame]; rfl
@[simp] theorem applySpeed_clockIn (P : Params) (v : F32) (s : State) : (applySpeed P v s).clockIn = s.clockIn := by
  rw [applySpeed_frame]; rfl
@[simp] theorem applySpeed_samples (P : Params) (v : F32) (s : State) : (applySpeed P v s).samples = s.samples := by
  rw [applySpeed_frame]; rfl
@[simp] theorem applySpeed_resets (P : Params) (v : F32) (s : State) : (applySpeed P v s).resets = s.resets := by
  rw [applySpeed_frame]; rfl
@[simp] theorem applySpeed_waits (P : Params) (v : F32) (s : State) : (applySpeed P v s).waits = s.waits := by
  rw [applySpeed_frame]; rfl
@[simp] theorem applySpeed_source (P : Params) (v : F32) (s : State) : (applySpeed P v s).source = s.source := by
  rw [applySpeed_frame]; rfl
@[simp] theorem applySpeed_log (P : Params) (v : F32) (s : State) : (applySpeed P v s).log = s.log := by
  rw [applySpeed_frame]; rfl
@[simp] theorem computeNewSpeed_curPos (P : Params) (s : State) : (computeNewSpeed P s).curPos = s.curPos :=
  applySpeed_curPos P _ s
@[simp] theorem computeNewSpeed_tgtPos (P : Params) (s : State) : (computeNewSpeed P s).tgtPos = s.tgtPos :=
  applySpeed_tgtPos P _ s
@[simp] theorem computeNewSpeed_maxSpeed (P : Params) (s : State) : (computeNewSpeed P s).maxSpeed = s.maxSpeed :=
  applySpeed_maxSpeed P _ s
@[simp] theorem computeNewSpeed_accel (P : Params) (s : State) : (computeNewSpeed P s).accel = s.accel :=
  applySpeed_accel P _ s
@[simp] theorem computeNewSpeed_lastStepTime (P : Params) (s : State) : (computeNewSpeed P s).lastStepTime = s.lastStepTime :=
  applySpeed_lastStepTime P _ s
@[simp] theorem computeNewSpeed_minPulseWidth (P : Params) (s : State) : (computeNewSpeed P s).minPulseWidth = s.minPulseWidth :=
  applySpeed_minPulseWidth P _ s
@[simp] theorem computeNewSpeed_config (P : Params) (s : State) : (computeNewSpeed P s).config = s.config :=
  applySpeed_config P _ s
@[simp] theorem computeNewSpeed_pin (P : Params) (s : State) : (computeNewSpeed P s).pin = s.pin :=
  applySpeed_pin P _ s
@[simp] theorem computeNewSpeed_oe (P : Params) (s : State) : (computeNewSpeed P s).oe = s.oe :=
  applySpeed_oe P _ s
@[simp] theorem computeNewSpeed_status (P : Params) (s : State) : (computeNewSpeed P s).status = s.status :=
  applySpeed_status P _ s
@[simp] theorem computeNewSpeed_faultFrame (P : Params) (s : State) : (computeNewSpeed P s).faultFrame = s.faultFrame :=
  applySpeed_faultFrame P _ s
@[simp] theorem computeNewSpeed_seq (P : Params) (s : State) : (computeNewSpeed P s).seq = s.seq :=
  applySpeed_seq P _ s
@[simp] theorem computeNewSpeed_host (P : Params) (s : State) : (computeNewSpeed P s).host = s.host :=
  applySpeed_host P _ s
@[simp] theorem computeNewSpeed_clockIn (P : Params) (s : State) : (computeNewSpeed P s).clockIn = s.clockIn :=
  applySpeed_clockIn P _ s
@[simp] theorem computeNewSpeed_samples (P : Params) (s : State) : (computeNewSpeed P s).samples = s.samples :=
  applySpeed_samples P _ s
@[simp] theorem computeNewSpeed_resets (P : Params) (s : State) : (computeNewSpeed P s).resets = s.resets :=
  applySpeed_resets P _ s
@[simp] theorem computeNewSpeed_waits (P : Params) (s : State) : (computeNewSpeed P s).waits = s.waits :=
  applySpeed_waits P _ s
@[simp] theorem computeNewSpeed_source (P : Params) (s : State) : (computeNewSpeed P s).source = s.source :=
  applySpeed_source P _ s
@[simp] theorem computeNewSpeed_log (P : Params) (s : State) : (computeNewSpeed P s).log = s.log :=
  applySpeed_log P _ s

/-! ### The pattern generator -/

/-- `DRIVE_PINS` and its parts write the pin latches, the waits and the log only. -/
def DrivesOnly (s t : State) : Prop :=
  ∃ (v : Pins) (w : Nat) (l : List Output), t = { s with pin := v, waits := w, log := s.log ++ l }

theorem drivesOnly_refl (s : State) : DrivesOnly s s := ⟨s.pin, s.waits, [], by simp⟩

theorem drivesOnly_trans {s t u : State} (h1 : DrivesOnly s t) (h2 : DrivesOnly t u) : DrivesOnly s u := by
  obtain ⟨v, w, l, rfl⟩ := h1
  obtain ⟨v', w', l', rfl⟩ := h2
  exact ⟨v', w', l ++ l', by simp⟩

theorem pinWrite_drivesOnly (p : Pin) (lv : Level) (s : State) : DrivesOnly s (pinWrite p lv s) :=
  ⟨pinsSet s.pin p lv, s.waits, [.pin p lv], rfl⟩

theorem wait_drivesOnly (us : U16) (s : State) : DrivesOnly s (wait us s) :=
  ⟨s.pin, s.waits + 1, [.wait us, .held (us.toNat + waitExcess s.source s.waits)], by simp [wait, emit]⟩

theorem strobe_drivesOnly (d : Strobe) (s : State) : DrivesOnly s (strobe d s) := ⟨s.pin, s.waits, [.strobe d], rfl⟩

theorem drive0_drivesOnly (s : State) : DrivesOnly s (drive0 s) := by
  unfold drive0
  split <;> exact strobe_drivesOnly _ s

theorem drive1_drivesOnly (s : State) : DrivesOnly s (drive1 s) :=
  drivesOnly_trans (pinWrite_drivesOnly _ _ s)
    (drivesOnly_trans (pinWrite_drivesOnly _ _ _)
      (drivesOnly_trans (wait_drivesOnly _ _) (pinWrite_drivesOnly _ _ _)))

theorem driveTable_drivesOnly (P : Params) (levels : Pins) (n : Nat) (s : State) :
    DrivesOnly s (driveTable P levels n s) := by
  unfold driveTable
  generalize P.pinOrder.filter (fun p => decide (pinNumber p ≤ n)) = ps
  induction ps generalizing s with
  | nil => exact drivesOnly_refl s
  | cons p ps ih => exact drivesOnly_trans (pinWrite_drivesOnly p _ s) (ih _)

/-- What `DRIVE_PINS` can do: drive, or stop on a topology outside {0, 1, 2, 4, 8}. -/
theorem drivePins_cases (P : Params) (s : State) :
    (legalTopology s.topology = true ∧ ∃ t, drivePins P s = .ok t ∧ DrivesOnly s t) ∨
    (legalTopology s.topology = false ∧ drivePins P s = .error (.driveUndefinedTopology s.topology)) := by
  unfold drivePins legalTopology
  by_cases h0 : s.topology = 0#4
  · exact .inl ⟨by simp [h0], drive0 s, by simp [h0], drive0_drivesOnly s⟩
  by_cases h1 : s.topology = 1#4
  · exact .inl ⟨by simp [h1], drive1 s, by simp [h1], drive1_drivesOnly s⟩
  by_cases h2 : s.topology = 2#4
  · exact .inl ⟨by simp [h2], _, by simp [h2]; rfl, driveTable_drivesOnly P _ 2 s⟩
  by_cases h4 : s.topology = 4#4
  · exact .inl ⟨by simp [h4], _, by simp [h4]; rfl, driveTable_drivesOnly P _ 4 s⟩
  by_cases h8 : s.topology = 8#4
  · exact .inl ⟨by simp [h8], _, by simp [h8]; rfl, driveTable_drivesOnly P _ 4 s⟩
  · exact .inr ⟨by simp [h0, h1, h2, h4, h8], by simp [h0, h1, h2, h4, h8]⟩

/-! ### The commit of a step and the run bodies -/

/-- What a committed step changes: position, time of the last step, pins, waits and log. -/
def SteppedFrom (now : U32) (s t : State) : Prop :=
  ∃ (v : Pins) (w : Nat) (l : List Output),
    t = { s with curPos := steppedPos s, lastStepTime := now, pin := v, waits := w, log := s.log ++ l }

/-- What `COMMIT_STEP` can do. -/
theorem commitStep_cases (P : Params) (now : U32) (s : State) :
    (legalTopology s.topology = true ∧ ∃ t, commitStep P now s = .ok t ∧ SteppedFrom now s t) ∨
    (legalTopology s.topology = false ∧ commitStep P now s = .error (.driveUndefinedTopology s.topology)) := by
  have ht : (setCurPos (steppedPos s) s).topology = s.topology := rfl
  unfold commitStep
  rcases drivePins_cases P (setCurPos (steppedPos s) s) with ⟨h, t, e, v, w, l, rfl⟩ | ⟨h, e⟩
  · rw [ht] at h
    exact .inl ⟨h, _, by rw [e]; rfl, v, w, l, rfl⟩
  · rw [ht] at h e
    exact .inr ⟨h, by rw [e]; rfl⟩

/-- What `RUN_SPEED_BODY` can do: step, find no step due, or stop. -/
theorem runSpeedBody_cases (P : Params) (s : State) :
    (dueNow s = false ∧ runSpeedBody P s = .ok (false, takeSample s)) ∨
    (dueNow s = true ∧ legalTopology s.topology = true ∧
      ∃ t, runSpeedBody P s = .ok (true, t) ∧ SteppedFrom (clockNow s) (takeSample s) t) ∨
    (dueNow s = true ∧ legalTopology s.topology = false ∧
      runSpeedBody P s = .error (.driveUndefinedTopology s.topology)) := by
  have ht : (takeSample s).topology = s.topology := rfl
  unfold runSpeedBody
  by_cases hd : dueNow s = true
  · rcases commitStep_cases P (clockNow s) (takeSample s) with ⟨h, t, e, hs⟩ | ⟨h, e⟩
    · rw [ht] at h
      exact .inr (.inl ⟨hd, h, t, by rw [if_pos hd, e]; rfl, hs⟩)
    · rw [ht] at h e
      exact .inr (.inr ⟨hd, h, by rw [if_pos hd, e]; rfl⟩)
  · simp only [Bool.not_eq_true] at hd
    exact .inl ⟨hd, by simp [hd]⟩

/-- What `RUN_BODY` can do. -/
theorem runBody_cases (P : Params) (s : State) :
    (s.curPos = s.tgtPos ∧ runBody P s = .ok (false, s)) ∨
    (s.curPos ≠ s.tgtPos ∧ dueNow s = false ∧ runBody P s = .ok (true, takeSample s)) ∨
    (s.curPos ≠ s.tgtPos ∧ dueNow s = true ∧ legalTopology s.topology = true ∧
      ∃ t, runSpeedBody P s = .ok (true, t) ∧ SteppedFrom (clockNow s) (takeSample s) t ∧
        runBody P s = .ok (true, computeNewSpeed P t)) ∨
    (s.curPos ≠ s.tgtPos ∧ dueNow s = true ∧ legalTopology s.topology = false ∧
      runBody P s = .error (.driveUndefinedTopology s.topology)) := by
  unfold runBody
  by_cases h : s.curPos = s.tgtPos
  · exact .inl ⟨h, by simp [h]⟩
  · rcases runSpeedBody_cases P s with ⟨hd, e⟩ | ⟨hd, hl, t, e, hs⟩ | ⟨hd, hl, e⟩
    · exact .inr (.inl ⟨h, hd, by rw [if_neg h, e]; rfl⟩)
    · exact .inr (.inr (.inl ⟨h, hd, hl, t, e, hs, by rw [if_neg h, e]; rfl⟩))
    · exact .inr (.inr (.inr ⟨h, hd, hl, by rw [if_neg h, e]; rfl⟩))

/-- What one iteration of a blocking command can do. -/
theorem rtpIterate_cases (P : Params) (s : State) :
    (s.curPos = s.tgtPos ∧ rtpIterate P s = .next (respond 0#32 (leaveBusy s))) ∨
    (s.curPos ≠ s.tgtPos ∧ dueNow s = false ∧ rtpIterate P s = .next (takeSample s)) ∨
    (s.curPos ≠ s.tgtPos ∧ dueNow s = true ∧ legalTopology s.topology = true ∧
      ∃ t, runSpeedBody P s = .ok (true, t) ∧ SteppedFrom (clockNow s) (takeSample s) t ∧
        rtpIterate P s = .next (computeNewSpeed P t)) ∨
    (s.curPos ≠ s.tgtPos ∧ dueNow s = true ∧ legalTopology s.topology = false ∧
      rtpIterate P s = .fault (.driveUndefinedTopology s.topology)) := by
  unfold rtpIterate
  rcases runBody_cases P s with ⟨h, e⟩ | ⟨h, hd, e⟩ | ⟨h, hd, hl, t, e', hs, e⟩ | ⟨h, hd, hl, e⟩
  · exact .inl ⟨h, by rw [e]⟩
  · exact .inr (.inl ⟨h, hd, by rw [e]⟩)
  · exact .inr (.inr (.inl ⟨h, hd, hl, t, e', hs, by rw [e]⟩))
  · exact .inr (.inr (.inr ⟨h, hd, hl, by rw [e]⟩))

/-! ### Dispatch and the step -/

/-- What dispatch of a frame can do (R97). -/
theorem dispatchBy_cases (perform : Performer) (f : Frame) (s : State) :
    (s.faulted = true ∧ (∀ i, decode f = .ok i → isReadBack i = false) ∧
      dispatchBy perform f s = .next (respond 0#32 s)) ∨
    (s.faulted = false ∧ (∃ e, decode f = .error e) ∧
      dispatchBy perform f s = .next (raiseFault .illegalCommand f s)) ∨
    (∃ i, decode f = .ok i ∧ (s.faulted = true → isReadBack i = true) ∧ dispatchBy perform f s = perform i s) := by
  unfold dispatchBy
  cases hd : decode f with
  | error e =>
    cases hf : s.faulted with
    | true => exact .inl ⟨rfl, by simp, by simp⟩
    | false => exact .inr (.inl ⟨rfl, ⟨e, rfl⟩, by simp⟩)
  | ok i =>
    cases hf : s.faulted with
    | true =>
      cases hr : isReadBack i with
      | true => exact .inr (.inr ⟨i, rfl, fun _ => hr, by simp [hr]⟩)
      | false => exact .inl ⟨rfl, by intro j hj; cases hj; exact hr, by simp [hr]⟩
    | false => exact .inr (.inr ⟨i, rfl, by simp, by simp⟩)

/-- The same with the default parameters. -/
theorem dispatch_cases (f : Frame) (s : State) :
    (s.faulted = true ∧ (∀ i, decode f = .ok i → isReadBack i = false) ∧ dispatch f s = .next (respond 0#32 s)) ∨
    (s.faulted = false ∧ (∃ e, decode f = .error e) ∧ dispatch f s = .next (raiseFault .illegalCommand f s)) ∨
    (∃ i, decode f = .ok i ∧ (s.faulted = true → isReadBack i = true) ∧ dispatch f s = exec i s) :=
  dispatchBy_cases exec f s

/-- What the core can do next where no reset comes. -/
theorem workStepBy_cases (P : Params) (perform : Performer) (s : State) :
    (s.host = [] ∧ workStepBy P perform s = coreStepBy P s) ∨
    (∃ rest, s.host = .pause :: rest ∧ workStepBy P perform s = coreStepBy P { s with host := rest }) ∨
    (∃ f now rest, s.host = .frame f now :: rest ∧ s.seq = .idle ∧
      workStepBy P perform s = dispatchBy perform f { s with host := rest, clockIn := now }) ∨
    (∃ f now rest, s.host = .frame f now :: rest ∧ s.seq = .busyRtp ∧ workStepBy P perform s = rtpIterate P s) ∨
    (((∃ strap rest, s.host = .reset strap :: rest) ∨ (∃ strap n rest, s.host = .resetDuring strap n :: rest)) ∧
      workStepBy P perform s = .next s) := by
  unfold workStepBy
  match hh : s.host with
  | [] => exact .inl ⟨rfl, rfl⟩
  | .pause :: rest => exact .inr (.inl ⟨rest, rfl, by simp [dropMove, hh]⟩)
  | .frame f now :: rest =>
    match hq : s.seq with
    | .idle => exact .inr (.inr (.inl ⟨f, now, rest, rfl, rfl, by simp [acceptFrame, hh, hq]⟩))
    | .busyRtp => exact .inr (.inr (.inr (.inl ⟨f, now, rest, rfl, rfl, rfl⟩)))
  | .reset strap :: rest => exact .inr (.inr (.inr (.inr ⟨.inl ⟨strap, rest, rfl⟩, rfl⟩)))
  | .resetDuring strap n :: rest => exact .inr (.inr (.inr (.inr ⟨.inr ⟨strap, n, rest, rfl⟩, rfl⟩)))

/-- What a step can be: a reset, a reset while the core works, or the core's work. -/
theorem portStepBy_cases (P : Params) (perform : Performer) (s : State) :
    (∃ strap rest, s.host = .reset strap :: rest ∧
      portStepBy P perform s = .next (resetCore strap { s with host := rest })) ∨
    (∃ strap n rest, s.host = .resetDuring strap n :: rest ∧
      portStepBy P perform s =
        abandon strap n { s with host := rest } (workStepBy P perform { s with host := rest })) ∨
    ((∀ strap rest, s.host ≠ .reset strap :: rest) ∧ (∀ strap n rest, s.host ≠ .resetDuring strap n :: rest) ∧
      portStepBy P perform s = workStepBy P perform s) := by
  unfold portStepBy
  match hh : s.host with
  | .reset strap :: rest => exact .inl ⟨strap, rest, rfl, by simp [dropMove, hh]⟩
  | .resetDuring strap n :: rest => exact .inr (.inl ⟨strap, n, rest, rfl, by simp [dropMove, hh]⟩)
  | [] => exact .inr (.inr ⟨by simp, by simp, rfl⟩)
  | .pause :: _ => exact .inr (.inr ⟨by simp, by simp, rfl⟩)
  | .frame _ _ :: _ => exact .inr (.inr ⟨by simp, by simp, rfl⟩)

/-- Without a move of the host: a wait for the next frame, or an iteration. -/
theorem coreStepBy_cases (P : Params) (s : State) :
    (s.seq = .idle ∧ coreStepBy P s = .next s) ∨ (s.seq = .busyRtp ∧ coreStepBy P s = rtpIterate P s) := by
  unfold coreStepBy
  cases s.seq
  · exact .inl ⟨rfl, rfl⟩
  · exact .inr ⟨rfl, rfl⟩

/-- What is left of abandoned work: an initial part of what it would have added, of at most `n` entries and without its
response. -/
theorem abandonedPart_spec (n : Nat) (l : List Output) :
    abandonedPart n l <+: l ∧ (abandonedPart n l).length ≤ n ∧ ∀ o ∈ abandonedPart n l, isNoResponse o = true := by
  refine ⟨(List.take_prefix n _).trans (List.takeWhile_prefix _), by simp [abandonedPart], ?_⟩
  intro o ho
  have h := List.all_takeWhile (p := isNoResponse) (l := l)
  rw [List.all_eq_true] at h
  exact h o (List.mem_of_mem_take ho)

/-! ### The default parameters -/

/-- The commands with the default parameters are the commands. -/
theorem execWith_params (i : Instr) (s : State) : execWith params i s = exec i s := by cases i <;> rfl

/-- The machine with the default parameters is the machine. -/
theorem stepWith_params (s : State) : stepWith params s = step s := by
  have h : execWith params = exec := funext fun i => funext (execWith_params i)
  unfold stepWith step portStep
  rw [h]

end Sys2Proof.Machine
end

