-- ==== Sys2Proof/Laws/PerInstr.lean ====
section
/-! SUPPORT. The family `PassesTheDecoder`, per instruction: the frame of the command passes every test the decoder
makes (spec/30_encoding.md R97, R100), and its fields are the command's own. -/

namespace Sys2Proof.Laws.PassesTheDecoder

/-- The frame of `i` has the opcode of `i`, zero reserved bits, the operand of `i`, and no operand bit its type does
not allow. -/
def Statement (i : Instr) : Prop :=
  Op.ofOpcode (opcodeOf (encode i)) = some i.op ∧ rsvdOf (encode i) = 0#24 ∧ operandOf (encode i) = i.operand ∧
  (i.op.operandType = .none → operandOf (encode i) = 0#32) ∧
  (i.op.operandType = .u16 → (operandOf (encode i)).extractLsb' 16 16 = 0#16)

/-- The first three parts hold of every command alike. -/
theorem of_operand {i : Instr} (hn : i.op.operandType = .none → i.operand = 0#32)
    (hu : i.op.operandType = .u16 → i.operand.extractLsb' 16 16 = 0#16) : Statement i := by
  unfold Statement encode
  refine ⟨by simp, by simp, by simp, ?_, ?_⟩
  · rw [operandOf_mkFrame]; exact hn
  · rw [operandOf_mkFrame]; exact hu

theorem moveTo (p : S32) : Statement (.moveTo p) := of_operand nofun nofun
theorem move (r : S32) : Statement (.move r) := of_operand nofun nofun
theorem setCurrentPosition (p : S32) : Statement (.setCurrentPosition p) := of_operand nofun nofun
theorem setMaxSpeed (v : F32) : Statement (.setMaxSpeed v) := of_operand nofun nofun
theorem setAcceleration (a : F32) : Statement (.setAcceleration a) := of_operand nofun nofun
theorem setSpeed (v : F32) : Statement (.setSpeed v) := of_operand nofun nofun
theorem runToNewPosition (p : S32) : Statement (.runToNewPosition p) := of_operand nofun nofun

theorem setMinPulseWidth (w : U16) : Statement (.setMinPulseWidth w) :=
  of_operand nofun (by
    intro _
    ext i hi
    simp [Instr.operand])

theorem run : Statement .run := of_operand (fun _ => rfl) nofun
theorem runSpeed : Statement .runSpeed := of_operand (fun _ => rfl) nofun
theorem runSpeedToPosition : Statement .runSpeedToPosition := of_operand (fun _ => rfl) nofun
theorem runToPosition : Statement .runToPosition := of_operand (fun _ => rfl) nofun
theorem getCurrentPosition : Statement .getCurrentPosition := of_operand (fun _ => rfl) nofun
theorem getTargetPosition : Statement .getTargetPosition := of_operand (fun _ => rfl) nofun
theorem getDistanceToGo : Statement .getDistanceToGo := of_operand (fun _ => rfl) nofun
theorem getSpeed : Statement .getSpeed := of_operand (fun _ => rfl) nofun
theorem getMaxSpeed : Statement .getMaxSpeed := of_operand (fun _ => rfl) nofun
theorem getAcceleration : Statement .getAcceleration := of_operand (fun _ => rfl) nofun
theorem getStepInterval : Statement .getStepInterval := of_operand (fun _ => rfl) nofun
theorem getLastStepTime : Statement .getLastStepTime := of_operand (fun _ => rfl) nofun
theorem getMinPulseWidth : Statement .getMinPulseWidth := of_operand (fun _ => rfl) nofun
theorem getConfig : Statement .getConfig := of_operand (fun _ => rfl) nofun
theorem getStatus : Statement .getStatus := of_operand (fun _ => rfl) nofun
theorem getFaultFrameLo : Statement .getFaultFrameLo := of_operand (fun _ => rfl) nofun
theorem getFaultFrameHi : Statement .getFaultFrameHi := of_operand (fun _ => rfl) nofun

end Sys2Proof.Laws.PassesTheDecoder
end

