-- ==== Sys2Proof/Tests/Slice0.lean ====
section
/-! SUPPORT. The model's own tests. Every expected value is the spec's: the encodings of spec/30_encoding.md R90 to R105
and the vectors V10 to V94 of spec/95_test_vectors.md; and one witness for the hypotheses of every statement that has
some. -/

namespace Sys2Proof.Tests

set_option Elab.async false

open Sys2Proof Sys2Proof.Machine Sys2Proof.Config Sys2Proof.Claim

/-! ### Helpers -/

/-- The reset state with the latches of the pins at LOW, so that it can be evaluated whole. -/
def start : State := { State.reset with pin := levels 0 0 0 0 }

/-- `start` with the set-up of V1: `MAX_SPEED` 200.0, `ACCEL` 50.0. -/
def v1Setup : State := { start with maxSpeed := 0x43480000#32, accel := 0x42480000#32 }

/-- The state after a step that completes. -/
def after : Host.Outcome State Fault Refusal → State
  | .next t => t
  | .fault _ => start
  | .refused _ => start

/-- One command. -/
def does (i : Instr) (s : State) : State := after (exec i s)

/-- One command with the clock sample it takes. -/
def doesAt (now : Nat) (i : Instr) (s : State) : State := does i { s with clockIn := [BitVec.ofNat 32 now] }

/-- One frame at the port. -/
def issue (f : Nat) (s : State) : State := after (step (s.withFetchWord 64 f))

/-- The last response word. -/
def answer (s : State) : Option U32 := (responsesOf s.log).getLast?

/-- The speed and interval one recomputation leaves, from registers set directly (V40 to V46), with the interval that
R48 ties to the speed. -/
def recompute (cur tgt : Int) (speed max acc : F32) : F32 × Nat :=
  let t := computeNewSpeed params
    { start with curPos := BitVec.ofInt 32 cur, tgtPos := BitVec.ofInt 32 tgt, speed := speed, maxSpeed := max,
                 accel := acc, stepInterval := intervalOf params speed }
  (t.speed, t.stepInterval.toNat)

/-- A state at a position with a speed, and a step due at clock 1000000, on a given topology. -/
def stepping (topology : BitVec 4) (cur : Int) (speed : F32) : State :=
  { v1Setup with curPos := BitVec.ofInt 32 cur, tgtPos := 1000#32, speed := speed, stepInterval := 1000#32,
                 config := topology.setWidth 32, minPulseWidth := 5#16, clockIn := [1000000#32] }

/-- The pins and the events after one `RUN_SPEED`. -/
def drives (topology : BitVec 4) (cur : Int) (speed : F32) : Pins × List Output :=
  let t := does .runSpeed (stepping topology cur speed)
  (t.pin, eventsOf t.log)

/-! ### Decoding (R90 to R101, V10 to V15) -/

theorem test_decode_targets :
    decode 0x0000000300000001#64 = .ok (.moveTo 3#32) ∧
    decode 0xFFFFFFFD00000001#64 = .ok (.moveTo 0xFFFFFFFD#32) ∧
    decode 0x7FFFFFFF00000002#64 = .ok (.move 0x7FFFFFFF#32) ∧
    decode 0xFFFFFFFF00000003#64 = .ok (.setCurrentPosition 0xFFFFFFFF#32) := by decide

theorem test_decode_setup :
    decode 0x447A000000000004#64 = .ok (.setMaxSpeed 0x447A0000#32) ∧
    decode 0x42C8000000000005#64 = .ok (.setAcceleration 0x42C80000#32) ∧
    decode 0x43FA000000000006#64 = .ok (.setSpeed 0x43FA0000#32) ∧
    decode 0x0000FFFF00000007#64 = .ok (.setMinPulseWidth 65535#16) ∧
    decode 0x7FC0000000000004#64 = .ok (.setMaxSpeed 0x7FC00000#32) := by decide

theorem test_decode_run :
    decode 0x0000000000000010#64 = .ok .run ∧ decode 0x0000000000000011#64 = .ok .runSpeed ∧
    decode 0x0000000000000012#64 = .ok .runSpeedToPosition ∧ decode 0x0000000000000013#64 = .ok .runToPosition ∧
    decode 0x0000000200000014#64 = .ok (.runToNewPosition 2#32) := by decide

theorem test_decode_readBack :
    decode 0x0000000000000020#64 = .ok .getCurrentPosition ∧ decode 0x0000000000000021#64 = .ok .getTargetPosition ∧
    decode 0x0000000000000022#64 = .ok .getDistanceToGo ∧ decode 0x0000000000000023#64 = .ok .getSpeed ∧
    decode 0x0000000000000024#64 = .ok .getMaxSpeed ∧ decode 0x0000000000000025#64 = .ok .getAcceleration ∧
    decode 0x0000000000000026#64 = .ok .getStepInterval ∧ decode 0x0000000000000027#64 = .ok .getLastStepTime ∧
    decode 0x0000000000000028#64 = .ok .getMinPulseWidth ∧ decode 0x0000000000000029#64 = .ok .getConfig ∧
    decode 0x000000000000002A#64 = .ok .getStatus ∧ decode 0x000000000000002B#64 = .ok .getFaultFrameLo ∧
    decode 0x000000000000002C#64 = .ok .getFaultFrameHi := by decide

theorem test_decode_illegal :
    decode 0x0000000000000000#64 = .error .unassignedOpcode ∧ decode 0x00000000000000FF#64 = .error .unassignedOpcode ∧
    decode 0x0000000000000008#64 = .error .unassignedOpcode ∧ decode 0x0000000000000015#64 = .error .unassignedOpcode ∧
    decode 0x000000000000002D#64 = .error .unassignedOpcode ∧ decode 0x0000000000000110#64 = .error .reservedNotZero ∧
    decode 0x0000000080000001#64 = .error .reservedNotZero ∧ decode 0x0000000100000010#64 = .error .operandNotZero ∧
    decode 0x8000000000000020#64 = .error .operandNotZero ∧
    decode 0x0001000000000007#64 = .error .operandHighNotZero := by decide

/-- Bytes least significant first (R81); seven bytes are no frame (R82). -/
theorem test_decode_bytes :
    decodeBytes [0x01#8, 0#8, 0#8, 0#8, 0xE8#8, 0x03#8, 0#8, 0#8] = .ok (.moveTo 1000#32) ∧
    decodeBytes [0x10#8, 0#8, 0#8, 0#8, 0#8, 0#8, 0#8] = .error .notOneFrame ∧
    responseBytes 0x00020202#32 = [0x02#8, 0x02#8, 0x02#8, 0x00#8] := by decide

theorem test_decodeTableWord :
    decodeTableWord 64 0x000003E800000001 = some (.moveTo 1000#32) ∧ decodeTableWord 64 0x2A = some .getStatus ∧
    decodeTableWord 64 0 = none := by decide

theorem test_encode :
    encode (.move 0xFFFFFFFD#32) = 0xFFFFFFFD00000002#64 ∧ encode (.setSpeed 0xC1200000#32) = 0xC120000000000006#64 ∧
    encode (.setMinPulseWidth 20#16) = 0x0000001400000007#64 ∧ encode .getStatus = 0x000000000000002A#64 := by decide

/-! ### Source lines (R103): each check refuses an ill-formed line -/

theorem test_illFormed_lines :
    AsmLine.wellFormed ⟨.moveTo, .decimal 2147483648, []⟩ = false ∧
    AsmLine.wellFormed ⟨.moveTo, .decimal (-2147483649), []⟩ = false ∧
    AsmLine.wellFormed ⟨.move, .hex 0x100000000, []⟩ = false ∧
    AsmLine.wellFormed ⟨.move, .inf, []⟩ = false ∧
    AsmLine.wellFormed ⟨.setSpeed, .floatBits 0x100000000, []⟩ = false ∧
    AsmLine.wellFormed ⟨.setSpeed, .absent, []⟩ = false ∧
    AsmLine.wellFormed ⟨.setMinPulseWidth, .decimal 65536, []⟩ = false ∧
    AsmLine.wellFormed ⟨.setMinPulseWidth, .decimal (-1), []⟩ = false ∧
    AsmLine.wellFormed ⟨.run, .decimal 1, []⟩ = false ∧
    AsmLine.wellFormed ⟨.run, .absent, [4294967296]⟩ = false ∧
    AsmLine.wellFormed ⟨.run, .absent, [1, 2]⟩ = false := by decide

/-- R105's lines, and a decimal literal that needs rounding: 199.9 is `0x4347E666` in binary32. -/
theorem test_assemble :
    assemble ⟨.move, .decimal (-3), []⟩ = some 0xFFFFFFFD00000002#64 ∧
    assemble ⟨.setMaxSpeed, .floating false 2000 (-1), []⟩ = some 0x4348000000000004#64 ∧
    assemble ⟨.setSpeed, .floating true 10 0, []⟩ = some 0xC120000000000006#64 ∧
    assemble ⟨.setSpeed, .floating false 1999 (-1), []⟩ = some 0x4347E66600000006#64 ∧
    assemble ⟨.setSpeed, .negInf, []⟩ = some 0xFF80000000000006#64 ∧
    assemble ⟨.runToPosition, .absent, [0, 50000]⟩ = some 0x0000000000000013#64 := by decide +kernel

/-! ### The speed profile (V40 to V46) -/

theorem test_profile_accelerate :
    recompute 0 1000 0x00000000#32 0x43480000#32 0x42480000#32 = (0x41200000#32, 100000) ∧
    recompute 1 1000 0x41200000#32 0x43480000#32 0x42480000#32 = (0x41700000#32, 66666) ∧
    recompute 500 1000 0x43480000#32 0x43480000#32 0x42480000#32 = (0x43480000#32, 5000) ∧
    recompute 0 1000 0x4347E666#32 0x43480000#32 0x42480000#32 = (0x43480000#32, 5000) ∧
    recompute 0 1000 0xC0400000#32 0x43480000#32 0x42480000#32 = (0x415AAAAA#32, 73170) ∧
    recompute 0 1000 0xC3480000#32 0x43480000#32 0x42480000#32 = (0xC347C000#32, 5006) := by decide +kernel

theorem test_profile_decelerate :
    recompute 999 1000 0x41700000#32 0x43480000#32 0x42480000#32 = (0x413AAAAB#32, 85714) ∧
    recompute 999 1000 0x41200000#32 0x43480000#32 0x42480000#32 = (0x41200000#32, 100000) ∧
    recompute 1000 0 0x43480000#32 0x43480000#32 0x42480000#32 = (0x4347C000#32, 5006) ∧
    recompute 5 5 0x40A00000#32 0x43480000#32 0x42480000#32 = (0x00000000#32, 0) ∧
    recompute 0 (-10) 0x40A00000#32 0x43480000#32 0x42480000#32 = (0xC0A00000#32, 200000) ∧
    recompute 0 (-1) 0x00000000#32 0x43480000#32 0x42480000#32 = (0xC1200000#32, 100000) ∧
    recompute 0 100 0x00000000#32 0x00000000#32 0x42480000#32 = (0x00000000#32, 0) ∧
    recompute 0 (-2147483648) 0x00000000#32 0x4E6E6B28#32 0x3F800000#32 = (0xBFB504F3#32, 707106) := by decide +kernel

/-- V47 to V49. -/
theorem test_interval :
    [0x49742400#32, 0x49742401#32, 0x49F42400#32, 0x41700000#32, 0xC1200000#32, 0x3F000000#32, 0x39745176#32,
      0x38D1B717#32, 0x09793AF2#32, 0x000116C2#32, 0x80000000#32, 0x7F800000#32].map
      (fun v => (intervalOf params v).toNat) =
    [1, 0, 0, 66666, 100000, 2000000, 4291845632, 4294967295, 4294967295, 4294967295, 0, 0] := by decide +kernel

/-! ### The gate (V20 to V33) -/

theorem test_gate_wraps :
    stepDue 0xFFFFFFF0#32 0xFFFFFF00#32 0x200#32 = false ∧ stepDue 0x000000FF#32 0xFFFFFF00#32 0x200#32 = false ∧
    stepDue 0x00000100#32 0xFFFFFF00#32 0x200#32 = true ∧ stepDue 0xFFFFFF7F#32 0xFFFFFF00#32 0x80#32 = false ∧
    stepDue 0xFFFFFF80#32 0xFFFFFF00#32 0x80#32 = true ∧ stepDue 0x00000010#32 0xFFFFFF00#32 0x80#32 = true ∧
    stepDue 0x00000005#32 0x00001000#32 0x100#32 = true ∧ stepDue 0x7FFFFFFF#32 0x80000000#32 0xFFFFFFFF#32 = true := by
  decide

theorem test_gate_plain :
    stepDue 0x000010FF#32 0x00001000#32 0x100#32 = false ∧ stepDue 0x00001100#32 0x00001000#32 0x100#32 = true ∧
    stepDue 123#32 456#32 0#32 = false ∧ stepDue 0x00001000#32 0x00001000#32 1#32 = false ∧
    stepDue 0xFFFFFFFF#32 0#32 0xFFFFFFFF#32 = true ∧ stepDue 0xFFFFFFFE#32 0#32 0xFFFFFFFF#32 = false := by decide

/-! ### The pattern generator (V60 to V66) -/

theorem test_topology0 : drives 0#4 5 0x41200000#32 = (levels 0 0 0 0, [.strobe .fwd]) ∧
    drives 0#4 5 0xC1200000#32 = (levels 0 0 0 0, [.strobe .bwd]) := by decide +kernel

theorem test_topology1 :
    drives 1#4 5 0x41200000#32 =
      (levels 0 1 0 0, [.pin .p2 true, .pin .p1 true, .wait 5#16, .pin .p1 false]) ∧
    (drives 1#4 5 0xC1200000#32).2.head? = some (.pin .p2 false) := by decide +kernel

theorem test_topology2 : [0, 1, 2, 3].map (fun p => (drives 2#4 (p - 1) 0x41200000#32).1) =
    [levels 0 1 0 0, levels 1 1 0 0, levels 1 0 0 0, levels 0 0 0 0] := by decide +kernel

theorem test_topology4 : [0, 1, 2, 3].map (fun p => (drives 4#4 (p - 1) 0x41200000#32).1) =
    [levels 1 0 1 0, levels 0 1 1 0, levels 0 1 0 1, levels 1 0 0 1] ∧
    (drives 4#4 0 0x41200000#32).2 = [.pin .p1 false, .pin .p2 true, .pin .p3 true, .pin .p4 false] := by
  decide +kernel

theorem test_topology8 : [0, 1, 2, 3, 4, 5, 6, 7].map (fun p => (drives 8#4 (p + 1) 0xC1200000#32).1) =
    [levels 1 0 0 0, levels 1 0 1 0, levels 0 0 1 0, levels 0 1 1 0, levels 0 1 0 0, levels 0 1 0 1, levels 0 0 0 1,
     levels 1 0 0 1] := by decide +kernel

/-- R166 (c), R182: the sample stands before the pulse in the log, and the wait's duration inside it. -/
theorem test_pulse_log :
    (does .runSpeed (stepping 1#4 5 0x41200000#32)).log =
      [.sample 1000000#32, .pin .p2 true, .pin .p1 true, .wait 5#16, .held (5 + waitExcess 0 0), .pin .p1 false,
       .response 1#32] := by
  simp only [does, stepping, v1Setup, start, State.reset, exec]
  rfl

/-- R7, D40: with the pin order P4 P3 P2 P1 a step of topology 4 drives the same levels in that order. -/
theorem test_pin_order :
    eventsOf (after (execWith { params with pinOrder := [.p4, .p3, .p2, .p1] } .runSpeed
      (stepping 4#4 0 0x41200000#32))).log =
    [.pin .p4 false, .pin .p3 true, .pin .p2 true, .pin .p1 false] := by decide +kernel

/-- R187 and D40 hold of the default parameters. -/
theorem test_params_legal : paramsLegal params = true := by decide +kernel

/-! ### Commands (V80 to V94) -/

theorem test_moveTo : (does (.moveTo 1000#32) v1Setup).tgtPos = 1000#32 ∧
    (does (.moveTo 1000#32) v1Setup).speed = 0x41200000#32 ∧
    (does (.moveTo 0xFFFFFFFD#32) start).speed = 0xBF800000#32 ∧
    (does (.moveTo 0xFFFFFFFD#32) start).stepInterval = 1000000#32 := by decide +kernel

theorem test_move_wraps : (does (.move 1#32) { v1Setup with curPos := 0x7FFFFFFF#32 }).tgtPos = 0x80000000#32 ∧
    (does (.move 1#32) { v1Setup with curPos := 0x7FFFFFFF#32 }).speed = 0x41200000#32 := by decide +kernel

theorem test_setCurrentPosition :
    let t := does (.setCurrentPosition 5#32)
      { v1Setup with curPos := 1#32, tgtPos := 1000#32, speed := 0x41700000#32, stepInterval := 66666#32,
                     lastStepTime := 100000#32 }
    t.curPos = 5#32 ∧ t.tgtPos = 5#32 ∧ t.speed = 0x00000000#32 ∧ t.stepInterval = 0#32 ∧
    t.lastStepTime = 100000#32 := by decide +kernel

theorem test_setMaxSpeed_lowered :
    let s := { v1Setup with curPos := 398#32, tgtPos := 1000#32, speed := 0x43480000#32, stepInterval := 5000#32 }
    (does (.setMaxSpeed 0x42C80000#32) s).speed = 0x42C80000#32 ∧
    (does (.setMaxSpeed 0x42C80000#32) s).stepInterval = 10000#32 ∧
    (does (.setMaxSpeed 0x00000000#32) s).stepInterval = 0#32 := by decide +kernel

theorem test_setSpeed_clamps : (does (.setSpeed 0x43FA0000#32) v1Setup).speed = 0x43480000#32 ∧
    (does (.setSpeed 0xC3FA0000#32) v1Setup).speed = 0xC3480000#32 ∧
    (does (.setSpeed 0x7F800000#32) v1Setup).stepInterval = 5000#32 := by decide +kernel

theorem test_setSpeed_zeros :
    let t := does (.setSpeed 0x80000000#32) { v1Setup with speed := 0x42480000#32, stepInterval := 20000#32 }
    t.speed = 0x80000000#32 ∧ t.stepInterval = 0#32 ∧ (does (.setSpeed 0x00000000#32) t).speed = 0x80000000#32 := by
  decide +kernel

theorem test_setMinPulseWidth : (does (.setMinPulseWidth 20#16) start).minPulseWidth = 20#16 ∧
    answer (does .getMinPulseWidth (does (.setMinPulseWidth 20#16) start)) = some 20#32 := by decide +kernel

theorem test_run :
    let s := { v1Setup with tgtPos := 1000#32, speed := 0x41200000#32, stepInterval := 100000#32 }
    let t := doesAt 100000 .run s
    t.curPos = 1#32 ∧ t.speed = 0x41700000#32 ∧ t.stepInterval = 66666#32 ∧ t.lastStepTime = 100000#32 ∧
    answer t = some 1#32 ∧ (doesAt 99999 .run s).curPos = 0#32 ∧ answer (doesAt 99999 .run s) = some 1#32 := by
  decide +kernel

theorem test_runSpeed_passes_target :
    let s := { start with maxSpeed := 0x447A0000#32, speed := 0x43FA0000#32, stepInterval := 2000#32 }
    (doesAt 2000 .runSpeed s).curPos = 1#32 ∧ answer (doesAt 2000 .runSpeed s) = some 1#32 ∧
    (doesAt 2000 .runSpeedToPosition s).curPos = 0#32 ∧ (doesAt 2000 .runSpeedToPosition s).samples = 0 ∧
    answer (doesAt 2000 .run s) = some 0#32 := by decide +kernel

theorem test_runSpeedToPosition :
    let s := { v1Setup with curPos := 0xFFFFFFFE#32, tgtPos := 0xFFFFFFFD#32, speed := 0xC1200000#32,
                            stepInterval := 100000#32, lastStepTime := 200000#32, config := 8#32 }
    let t := doesAt 300000 .runSpeedToPosition s
    t.curPos = 0xFFFFFFFD#32 ∧ t.pin = levels 0 1 0 1 ∧ t.speed = 0xC1200000#32 ∧ answer t = some 1#32 ∧
    answer (doesAt 400000 .runSpeedToPosition t) = some 0#32 := by decide +kernel

theorem test_runToPosition : (does .runToPosition start).seq = .busyRtp ∧
    (does .runToPosition start).status = 1#32 ∧ (does .runToPosition start).log = [] ∧
    after (step (does .runToPosition start)) = { start with log := [.response 0#32] } := by decide +kernel

/-- P5, up to its second iteration. -/
theorem test_runToNewPosition :
    let t := does (.runToNewPosition 2#32)
      { start with maxSpeed := 0x42C80000#32, accel := 0x43480000#32, config := 0#32,
                   clockIn := [50000#32, 100000#32] }
    t.speed = 0x41A00000#32 ∧ t.stepInterval = 50000#32 ∧ t.seq = .busyRtp ∧
    (after (step t)).curPos = 1#32 ∧ (after (step t)).speed = 0x41A00000#32 ∧
    eventsOf (after (step t)).log = [.strobe .fwd] := by decide +kernel

theorem test_readBack :
    [Instr.getCurrentPosition, .getTargetPosition, .getDistanceToGo, .getSpeed, .getMaxSpeed, .getAcceleration,
      .getStepInterval, .getLastStepTime, .getMinPulseWidth, .getConfig].map
      (fun i => answer (does i { v1Setup with curPos := 0xFFFFFFFB#32, tgtPos := 3#32, speed := 0x80000000#32,
                                              lastStepTime := 9#32 })) =
    [some 0xFFFFFFFB#32, some 3#32, some 8#32, some 0x80000000#32, some 0x43480000#32, some 0x42480000#32, some 0#32,
     some 9#32, some 1#32, some 4#32] := by decide +kernel

/-! ### Faults and reset (V50 to V56, V70, V71) -/

theorem test_faults :
    (issue 0x0000000000000005 start).status = 0x00020202#32 ∧
    (issue 0xBF80000000000005 start).faultFrame = 0xBF80000000000005#64 ∧
    (issue 0x7FC0000000000004 start).status = 0x00030402#32 ∧
    (issue 0x7FC0000000000006 start).status = 0x00040802#32 ∧
    (issue 0x0000000000000105 start).status = 0x00051002#32 ∧
    (issue 0x0000000100000005 start).accel = 0x00000001#32 ∧
    (issue 0x8000000000000004 start).maxSpeed = 0x80000000#32 := by decide +kernel

theorem test_faulted_core :
    let s := issue 0x0000000000000005 start
    (issue 0x0000000A00000001 s).tgtPos = 0#32 ∧ (issue 0x00000000000000FF s).status = 0x00020202#32 ∧
    answer (issue 0x2A s) = some 0x00020202#32 ∧ answer (issue 0x2B s) = some 0x00000005#32 ∧
    answer (issue 0x2C s) = some 0x00000000#32 ∧ (issue 0xBF80000000000005 s).faultFrame = 0x5#64 := by decide +kernel

theorem test_reset_straps :
    [0#4, 1#4, 2#4, 4#4, 8#4, 3#4, 15#4].map
      (fun k => let t := resetCore k (does .runToPosition start); (t.oe, t.status, t.config.toNat, t.seq)) =
    [(levels 0 0 0 0, 0#32, 0, .idle), (levels 1 1 0 0, 0#32, 1, .idle), (levels 1 1 0 0, 0#32, 2, .idle),
     (levels 1 1 1 1, 0#32, 4, .idle), (levels 1 1 1 1, 0#32, 8, .idle), (levels 0 0 0 0, 0x00010102#32, 3, .idle),
     (levels 0 0 0 0, 0x00010102#32, 15, .idle)] := by decide +kernel

/-- R300, D36: a reset in the pulse of topology 1, before it ends: the events so far, no end of the wait, no response, and
the registers of V72. -/
theorem test_reset_in_the_pulse :
    let s := { stepping 1#4 5 0x41200000#32 with
               host := [.resetDuring 8#4 4, .frame 0x11#64 [1000000#32], .frame 0x20#64 []] }
    (after (step s)).log = [.sample 1000000#32, .pin .p2 true, .pin .p1 true, .wait 5#16] ∧
    (after (step s)).host = [.frame 0x20#64 []] ∧ (after (step s)).curPos = 0#32 ∧
    (after (step s)).config = 8#32 ∧ (after (step s)).stepInterval = 0#32 := by
  refine ⟨by decide +kernel, by decide +kernel, by decide +kernel, by decide +kernel, by decide +kernel⟩

/-- V74: reset while a blocking command runs. -/
theorem test_reset_in_an_iteration :
    let s := { does .runToPosition { v1Setup with tgtPos := 5#32 } with host := [.resetDuring 4#4 9] }
    (after (step s)).seq = .idle ∧ (after (step s)).status = 0#32 ∧ responsesOf (after (step s)).log = [] := by
  refine ⟨by decide +kernel, by decide +kernel, by decide +kernel⟩

/-! ### Witnesses: concrete states that meet the hypotheses of the statements -/

/-- Accelerating from position 0 toward 1000, a step due. -/
def moving : State :=
  { v1Setup with tgtPos := 1000#32, speed := 0x41200000#32, stepInterval := 100000#32, clockIn := [100000#32] }

/-- The mirror of it. -/
def movingBack : State := { moving with tgtPos := 0xFFFFFC18#32, speed := 0xC1200000#32 }

theorem moving_legal : RegistersLegal moving := by constructor <;> decide +kernel
theorem movingBack_legal : RegistersLegal movingBack := by constructor <;> decide +kernel

theorem moving_inv : Inv moving where
  legal := moving_legal
  interval := by decide +kernel
  configReserved := by decide
  enables := by decide
  status := ⟨none, by decide, by simp, by decide, rfl⟩

theorem movingBack_inv : Inv movingBack where
  legal := movingBack_legal
  interval := by decide +kernel
  configReserved := by decide
  enables := by decide
  status := ⟨none, by decide, by simp, by decide, rfl⟩

/-- A stalled state: `MAX_SPEED` 0, away from the target. -/
def stalled : State := { start with maxSpeed := 0x00000000#32, tgtPos := 5#32 }

theorem stalled_inv : Inv stalled where
  legal := by constructor <;> decide +kernel
  interval := by decide +kernel
  configReserved := by decide
  enables := by decide
  status := ⟨none, by decide, by simp, by decide, rfl⟩

/-- A faulted core with a frame at its port. -/
def faultedWith (f : Frame) : State := { issue 0x0000000000000005 start with host := [.frame f []] }

/-- A busy core away from its target. -/
def busy : State := { moving with seq := .busyRtp, status := 1#32 }

theorem witness_EncodeInvertsDecode : decode 0x0000000500000014#64 = .ok (.runToNewPosition 5#32) := by decide

/-- Each of the four kinds of illegal frame, at its edge. -/
theorem witness_IllegalFramesRaiseCodeFive :
    (IllegalFrame 0x2D#64 ∧ IllegalFrame 0x101#64) ∧
    (IllegalFrame 0x000000010000002C#64 ∧ IllegalFrame 0x0001000000000007#64) ∧
    ¬ IllegalFrame 0x0000FFFF00000007#64 ∧ ¬ IllegalFrame 0x2C#64 :=
  ⟨⟨by decide +kernel, by decide +kernel⟩, ⟨by decide +kernel, by decide +kernel⟩, by decide +kernel,
    by decide +kernel⟩

theorem witness_acceptsAFrame :
    start.seq = .idle ∧ start.faulted = false ∧ (0xFFFFFFFF00000006#64 : Frame).toNat % 2 ^ 32 = 6 := by decide

/-- The boundary of the read-back opcodes: 0x20 is performed by a faulted core, 0x14 is not. -/
theorem witness_readBack_boundary :
    (faultedWith 0x20#64).faulted = true ∧ (faultedWith 0x20#64).seq = .idle ∧
    decode 0x20#64 = .ok .getCurrentPosition ∧ 0x20 ≤ (0x20#64 : Frame).toNat % 256 ∧
    decode 0x14#64 = .ok (.runToNewPosition 0#32) ∧ (0x14#64 : Frame).toNat % 256 < 0x20 := by decide +kernel

theorem witness_StepRunsTheDecodedCommand :
    decode 0x0000000000000010#64 = .ok .run ∧ start.seq = .idle ∧ start.faulted = false ∧
    (faultedWith 0x2A#64).faulted = true ∧ (faultedWith 0x2A#64).seq = .idle ∧ 0x20 ≤ (0x2A#64 : Frame).toNat % 256 ∧
    decode 0x2A#64 = .ok .getStatus := by decide +kernel

theorem witness_StepWithoutAFrame : start.host = [] ∧ start.seq = .idle ∧ busy.host = [] ∧ busy.seq = .busyRtp := by
  decide

theorem witness_ClosedPortKeepsTheFrame :
    ∃ t, step { busy with host := [.frame 0x20#64 []] } = .next t ∧ t.curPos = 1#32 ∧
      t.host = [.frame 0x20#64 []] := ⟨_, rfl, by decide +kernel, by decide +kernel⟩

theorem witness_FaultedStateIsStickyAndQuiescent :
    (faultedWith 0x0000000A00000001#64).faulted = true ∧ (faultedWith 0x0000000A00000001#64).seq = .idle ∧
    decode 0x0000000A00000001#64 = .ok (.moveTo 10#32) ∧ (0x0000000A00000001#64 : Frame).toNat % 256 < 0x20 ∧
    (after (step (faultedWith 0x0000000A00000001#64))).faulted = true ∧
    (after (step { faultedWith 0#64 with host := [.reset 8#4] })).faulted = false := by decide +kernel

theorem witness_ResetLeavesTheseValues :
    { busy with host := [.reset 8#4] }.host = .reset 8#4 :: [] ∧ legalTopology 8#4 = true ∧
    { busy with host := [.reset 5#4] }.host = .reset 5#4 :: [] ∧ legalTopology 5#4 = false ∧
    ResetNext 5#4 { busy with host := [.resetDuring 5#4 0] } := ⟨rfl, by decide, rfl, by decide, .inr ⟨0, rfl⟩⟩

theorem witness_ResetAbandonsTheWorkAnywhere :
    (∀ k, ¬ ResetNext k { busy with host := [.frame 0x20#64 []] }) ∧
    ∃ t, step { busy with host := [.frame 0x20#64 []] } = .next t ∧ t.curPos = 1#32 :=
  ⟨by simp [ResetNext], _, rfl, by decide +kernel⟩

theorem witness_EveryStepKeepsTheInvariant :
    Inv { moving with host := [.frame 0x10#64 [100000#32]] } ∧
    ∃ t, step { moving with host := [.frame 0x10#64 [100000#32]] } = .next t ∧ t.curPos = 1#32 :=
  ⟨⟨⟨moving_legal.1, moving_legal.2, moving_legal.3, moving_legal.4, moving_legal.5, moving_legal.6⟩, moving_inv.2,
    moving_inv.3, moving_inv.4, moving_inv.5⟩, _, rfl, by decide +kernel⟩

theorem witness_InvariantStatesNeverStop : Inv moving ∧ Inv movingBack ∧ Inv stalled :=
  ⟨moving_inv, movingBack_inv, stalled_inv⟩

/-- A sum, a product, a quotient that round, and a division by zero. -/
theorem witness_ArithmeticRoundsToNearestEven :
    isFinite 0x41200000#32 = true ∧ isFinite 0x40400000#32 = true ∧ isZero 0x40400000#32 = false ∧
    funits 0x41200000#32 + funits 0x40400000#32 ≠ 0 ∧ ieeeDiv 0x41200000#32 0x40400000#32 = 0x40555555#32 ∧
    ieeeDiv 0x41200000#32 0x80000000#32 = 0xFF800000#32 ∧ isZero 0x80000000#32 = true ∧
    isNaN 0x41200000#32 = false ∧ isZero 0x41200000#32 = false := by decide +kernel

theorem witness_SquareRootRoundsToNearestEven :
    isFinite 0x42C80000#32 = true ∧ fsign 0x42C80000#32 = false ∧ ieeeSqrt 0x42C80000#32 = 0x41200000#32 ∧
    isZero 0x80000000#32 = true ∧ ieeeSqrt 0x80000000#32 = 0x80000000#32 := by decide +kernel

theorem witness_ComparisonsAreThoseOfTheValues :
    isFinite 0xC1200000#32 = true ∧ isFinite 0x41200000#32 = true ∧ flt 0xC1200000#32 0x41200000#32 = true ∧
    isNaN 0x7FC00000#32 = true ∧ isInf 0xFF800000#32 = true ∧ flt 0xC1200000#32 0xFF800000#32 = false := by
  decide +kernel

theorem witness_DesiredSpeedStaysInRange : RegistersLegal moving ∧ RegistersLegal movingBack :=
  ⟨moving_legal, movingBack_legal⟩

/-- One legal state above the envelope, one below, one on it (V42's first two rows and V40). -/
theorem witness_DesiredSpeedFollowsTheSixSteps :
    moving.curPos ≠ moving.tgtPos ∧ flt (SpecSquare moving) (SpecEnvelope moving) = true ∧
    (let s := { moving with curPos := 999#32, speed := 0x41700000#32 }
     RegistersLegal s ∧ flt (SpecEnvelope s) (SpecSquare s) = true ∧ SpecLowered s = 0x413AAAAB#32) ∧
    (let s := { moving with curPos := 999#32 }
     RegistersLegal s ∧ flt (SpecEnvelope s) (SpecSquare s) = false ∧ flt (SpecSquare s) (SpecEnvelope s) = false) :=
  ⟨by decide, by decide +kernel, ⟨by constructor <;> decide +kernel, by decide +kernel, by decide +kernel⟩,
    ⟨by constructor <;> decide +kernel, by decide +kernel, by decide +kernel⟩⟩

theorem witness_FastPathAgreesWithGenericPath :
    RegistersLegal { moving with speed := 0x43480000#32 } ∧ feq 0x43480000#32 moving.maxSpeed = true ∧
    RegistersLegal { moving with speed := 0xC3480000#32 } ∧ feq 0xC3480000#32 (fneg moving.maxSpeed) = true :=
  ⟨by constructor <;> decide +kernel, by decide, by constructor <;> decide +kernel, by decide⟩

theorem witness_ProfileIsSymmetric : RegistersLegal moving ∧ moving.distance ≠ 0x80000000#32 ∧
    desiredSpeed params (mirror moving) = 0xC1700000#32 ∧ desiredSpeed params moving = 0x41700000#32 :=
  ⟨moving_legal, by decide, by decide +kernel, by decide +kernel⟩

theorem witness_IntervalStatements : isNaN 0x49742401#32 = false ∧ flt million (fabs 0x49742401#32) = true ∧
    flt million (fabs 0x49742400#32) = false ∧ isFinite 0x38D1B717#32 = true ∧ isZero 0x38D1B717#32 = false ∧
    units (fmag 0x38D1B717#32) * 2 ^ 32 ≤ 10 ^ 6 * 2 ^ 149 ∧ isFinite 0x41700000#32 = true ∧
    isZero 0x41700000#32 = false ∧ units (fmag (ieeeDiv 0x49742400#32 0x41700000#32)) < 2 ^ 32 * 2 ^ 149 := by
  decide +kernel

theorem witness_RunNeverPassesTheTarget :
    Inv moving ∧ 0 < moving.distance.toInt ∧ flt plusZero moving.speed = true ∧
    (∃ t, exec .run moving = .next t ∧ t.curPos = 1#32) ∧
    Inv movingBack ∧ movingBack.distance.toInt < 0 ∧ flt movingBack.speed plusZero = true ∧
    (∃ t, exec .run movingBack = .next t ∧ t.curPos = 0xFFFFFFFF#32) :=
  ⟨moving_inv, by decide, by decide +kernel, ⟨_, rfl, by decide +kernel⟩, movingBack_inv, by decide, by decide +kernel,
    ⟨_, rfl, by decide +kernel⟩⟩

theorem witness_PolledMotionTowardTheTargetReachesIt :
    Inv moving ∧ moving.faulted = false ∧ moving.seq = .idle ∧ fle moving.maxSpeed million = true ∧
    0 < moving.distance.toInt ∧ flt plusZero moving.speed = true ∧
    Inv movingBack ∧ movingBack.faulted = false ∧ movingBack.seq = .idle ∧ fle movingBack.maxSpeed million = true ∧
    movingBack.distance.toInt < 0 ∧ flt movingBack.speed plusZero = true :=
  ⟨moving_inv, by decide, by decide, by decide +kernel, by decide, by decide +kernel, movingBack_inv, by decide,
    by decide, by decide +kernel, by decide, by decide +kernel⟩

theorem witness_NoStepBeforeItsInterval :
    moving.lastStepTime = BitVec.ofNat 32 0 ∧ clockNow moving = BitVec.ofNat 32 100000 ∧
    clockNow moving = BitVec.ofNat 32 (100000 + 2 ^ 32) ∧ legalTopology moving.topology = true ∧
    moving.stepInterval.toNat ≤ 100000 := by decide

/-- R79: a pulse of 5 microseconds between the samples 100 and 105. -/
theorem witness_HeldTime :
    (∀ t, Output.sample t ∉ [.pin .p1 true, .wait 5#16, .held 5]) ∧
    ClockMonotone ([] ++ [.sample 100#32] ++ [.pin .p1 true, .wait 5#16, .held 5] ++ [.sample 105#32] ++ []) ∧
    HeldTime [.pin .p1 true, .wait 5#16, .held 5] = 5 :=
  ⟨by simp, ⟨100, by decide, nofun, rfl, 105, by decide, by intro before hb; cases hb; decide, rfl, trivial⟩, rfl⟩

/-- Two steps with topology 1, the second sample a million microseconds and the wait's excess after the first. -/
theorem witness_PulseBoundsTheStepRate :
    let s := { stepping 1#4 5 0x41200000#32 with lastStepTime := 0#32 }
    ∃ t u, exec .runSpeed s = .next t ∧ t.curPos ≠ s.curPos ∧
      exec .runSpeed { t with clockIn := [BitVec.ofNat 32 2000000] } = .next u ∧ u.curPos ≠ t.curPos ∧
      (waitExcess 0 0 ≤ 999995 → ClockMonotone u.log) := by
  refine ⟨_, _, rfl, by decide +kernel, rfl, by decide +kernel, fun h => ?_⟩
  refine ⟨1000000, Nat.zero_le _, nofun, rfl, ?_⟩
  refine ⟨2000000, ?_, ?_, rfl, ?_⟩
  · change 1000000 + (5 + waitExcess 0 0) ≤ 2000000
    omega
  · intro before hb
    cases hb
    decide
  · trivial

theorem witness_AtTargetNothingRuns : start.curPos = start.tgtPos := by decide

theorem witness_NotDueTakesOneSampleOnly :
    ¬ Due { moving with clockIn := [99999#32] } ∧ Due moving ∧ moving.curPos ≠ moving.tgtPos := by decide

/-- Due steps in both directions on each topology, and on an undefined one. -/
theorem witness_steps :
    (∀ k ∈ [0#4, 1#4, 2#4, 4#4, 8#4, 3#4], Due (stepping k 7 0x41200000#32) ∧ Due (stepping k 7 0xC1200000#32)) ∧
    (∀ k ∈ [0#4, 1#4, 2#4, 4#4, 8#4, 3#4], (stepping k 7 0x41200000#32).topology = k) ∧
    Moving (stepping 4#4 7 0x41200000#32) ∧ Moving (stepping 4#4 7 0xC1200000#32) ∧
    (stepping 4#4 7 0x41200000#32).curPos ≠ (stepping 4#4 7 0x41200000#32).tgtPos ∧
    legalTopology 4#4 = true ∧ legalTopology 3#4 = false := by decide +kernel

/-- A stop at the target (`MOVE_TO` the current position) of a motor that moves. -/
theorem witness_MoveCommandsSetTargetAndSpeed :
    feq moving.speed plusZero = false ∧ (does (.moveTo moving.curPos) moving).speed = 0x00000000#32 := by
  decide +kernel

theorem witness_SetCurrentPositionStopsTheMotor : feq moving.speed plusZero = false ∧
    feq start.speed plusZero = true ∧ fle plusZero start.maxSpeed = true := by decide

theorem witness_configuration_accepts :
    isFinite 0x80000000#32 = true ∧ fle plusZero 0x80000000#32 = true ∧ isFinite 0x00000001#32 = true ∧
    flt plusZero 0x00000001#32 = true ∧ isNaN 0x7F800000#32 = false ∧ isFinite moving.maxSpeed = true ∧
    fle plusZero moving.maxSpeed = true := by decide

theorem witness_RefusedOperandsRaiseTheirFault :
    start.faulted = false ∧ isFinite 0x7F800000#32 = false ∧ fle plusZero 0xBF800000#32 = false ∧
    isFinite 0x7FC00000#32 = false ∧ flt plusZero 0x80000000#32 = false ∧ isNaN 0x7FC00000#32 = true := by decide

theorem witness_blocking :
    busy.host = [] ∧ busy.seq = .busyRtp ∧ busy.curPos ≠ busy.tgtPos ∧ legalTopology busy.topology = true ∧
    (does .runToPosition start).curPos = (does .runToPosition start).tgtPos ∧
    (does .runToPosition stalled).seq = .busyRtp ∧ (does .runToPosition stalled).stepInterval = 0#32 ∧
    (does .runToPosition stalled).curPos ≠ (does .runToPosition stalled).tgtPos := by decide +kernel

theorem witness_StalledSpeedsNeverStep : Inv stalled ∧ isZero stalled.maxSpeed = true ∧
    stalled.curPos ≠ stalled.tgtPos := ⟨stalled_inv, by decide, by decide⟩

theorem witness_StatusAndConfigReadBack : Inv moving ∧ moving.seq = .idle := ⟨moving_inv, by decide⟩

theorem witness_OnlyTheseCommandsWrite : ∃ t, exec .runSpeed moving = .next t ∧ t.curPos ≠ moving.curPos ∧
    t.lastStepTime ≠ moving.lastStepTime ∧ t.pin ≠ moving.pin :=
  ⟨_, rfl, by decide +kernel, by decide +kernel, by decide +kernel⟩

theorem witness_EventsComeBeforeTheOneResponse : ∃ t, exec .runSpeed moving = .next t ∧ t.log.length = 6 :=
  ⟨_, rfl, by decide +kernel⟩

theorem witness_PinLatchesAreNeverRead :
    (∃ t, step { moving with host := [.frame 0x11#64 [100000#32]] } = .next t ∧ t.curPos = 1#32) ∧
    step { stepping 3#4 7 0x41200000#32 with host := [.frame 0x11#64 [100000#32]] } =
      .fault (.driveUndefinedTopology 3#4) :=
  ⟨⟨_, rfl, by decide +kernel⟩, by rfl⟩

theorem witness_RepeatingTheseSettersChangesNothing : ∃ t u, exec (.setSpeed 0x43FA0000#32) moving = .next t ∧
    exec (.setSpeed 0x43FA0000#32) t = .next u ∧ t.speed = 0x43480000#32 := ⟨_, _, rfl, rfl, by decide +kernel⟩

theorem v1Setup_inv : Inv v1Setup where
  legal := by constructor <;> decide +kernel
  interval := by decide +kernel
  configReserved := by decide
  enables := by decide
  status := ⟨none, by decide, by simp, by decide, rfl⟩

/-- V40's first two rows, reached by `MOVE_TO 1000` twice from `v1Setup`: the speed is 10.0, then 15.0. -/
theorem witness_RepeatedMoveToChangesNothing :
    let t := does (.moveTo 1000#32) v1Setup
    let u := does (.moveTo 1000#32) t
    t.speed = 0x41200000#32 ∧ u.speed = 0x41700000#32 := by decide +kernel

theorem witness_CoresShareNoState :
    ∃ after, systemStep [start, { moving with host := [.frame 0x10#64 [100000#32]] }] 1 = .next after ∧
      after.length = 2 ∧ (after.map State.curPos) = [0#32, 1#32] :=
  ⟨_, rfl, by decide +kernel, by decide +kernel⟩

theorem witness_EveryTableDrivesItsRow : paramsLegal params = true ∧ (stepping 2#4 7 0x41200000#32).topology = 2#4 ∧
    (stepping 4#4 7 0x41200000#32).topology = 4#4 ∧ (stepping 8#4 7 0x41200000#32).topology = 8#4 := by decide +kernel

end Sys2Proof.Tests
end

/-! Proofs: the comparisons of the float values (spec/00_scope.md R11). -/

namespace Sys2Proof.Machine

/-- The order of the keys is the order of the values: each is the sign applied to a strictly growing function of the
magnitude code. -/
theorem fkey_lt_fkey_iff_funits (a b : F32) : fkey a < fkey b ↔ funits a < funits b := by
  have hlt : units (fmag a) < units (fmag b) ↔ fmag a < fmag b := units_strictMono.lt_iff_lt
  have hgt : units (fmag b) < units (fmag a) ↔ fmag b < fmag a := units_strictMono.lt_iff_lt
  have hpos (m : Nat) : 0 < units m ↔ 0 < m := units_zero ▸ units_strictMono.lt_iff_lt (a := 0)
  have ha := hpos (fmag a)
  have hb := hpos (fmag b)
  simp only [fkey, funits]
  cases fsign a <;> cases fsign b <;> simp only [if_true, Bool.false_eq_true, if_false] <;> omega

theorem flt_iff_funits {a b : F32} (ha : isFinite a = true) (hb : isFinite b = true) :
    flt a b = true ↔ funits a < funits b := by
  simp [flt_of_not_nan (isNaN_of_isFinite ha) (isNaN_of_isFinite hb), fkey_lt_fkey_iff_funits]

theorem fle_iff_funits {a b : F32} (ha : isFinite a = true) (hb : isFinite b = true) :
    fle a b = true ↔ funits a ≤ funits b := by
  rw [fle_of_not_nan (isNaN_of_isFinite ha) (isNaN_of_isFinite hb), decide_eq_true_eq, ← not_lt, ← not_lt,
    fkey_lt_fkey_iff_funits]

theorem feq_iff_funits {a b : F32} (ha : isFinite a = true) (hb : isFinite b = true) :
    feq a b = true ↔ funits a = funits b := by
  rw [feq_of_not_nan (isNaN_of_isFinite ha) (isNaN_of_isFinite hb), decide_eq_true_eq, le_antisymm_iff,
    le_antisymm_iff, ← not_lt, ← not_lt, ← not_lt, ← not_lt, fkey_lt_fkey_iff_funits, fkey_lt_fkey_iff_funits]

theorem comparisons_false_of_isNaN {a b : F32} (h : isNaN a = true ∨ isNaN b = true) :
    flt a b = false ∧ fle a b = false ∧ feq a b = false := by
  rcases h with h | h <;> simp [flt, fle, feq, h]

/-- Every finite key lies strictly between the keys of the two infinities. -/
theorem flt_isInf_iff {a b : F32} (ha : isFinite a = true) (hb : isInf b = true) :
    flt a b = true ↔ fsign b = false := by
  have hb' : isNaN b = false := by simp_all [isInf, isNaN]
  rw [flt_of_not_nan (isNaN_of_isFinite ha) hb', decide_eq_true_eq]
  simp only [isFinite, isInf, decide_eq_true_eq, beq_iff_eq] at ha hb
  have hkey : -(infMag : Int) < fkey a ∧ fkey a < infMag := by
    simp only [fkey]
    split <;> omega
  cases hs : fsign b <;> simp [fkey, hs, hb] at hkey ⊢ <;> omega

/-- Settles O19: on finite values by the order of the keys, with an infinity by the bounds of the finite keys. -/
theorem comparisonsAreThoseOfTheValues : Obligations.ComparisonsAreThoseOfTheValues :=
  ⟨fun _ _ ha hb => ⟨flt_iff_funits ha hb, fle_iff_funits ha hb, feq_iff_funits ha hb⟩, by decide,
    fun _ _ => comparisons_false_of_isNaN, fun _ _ => flt_isInf_iff⟩

end Sys2Proof.Machine

/-! Proofs: the gate measures elapsed time, and what a due `RUN_SPEED` does (spec/41_timing_gate.md R160 to R168). -/

namespace Sys2Proof.Machine

open Sys2Proof.Config Sys2Proof.Claim

/-- R165: the gate opens when the interval is not 0 and has elapsed since the last step, modulo 2^32. -/
theorem stepDue_eq_elapsed (now last interval : U32) :
    stepDue now last interval = (decide (interval ≠ 0#32) && decide (interval ≤ now - last)) := by
  unfold stepDue
  by_cases h0 : interval = 0#32
  · simp [h0]
  · rw [if_neg h0, Bool.eq_iff_iff]
    split <;> simp only [Bool.or_eq_true, Bool.and_eq_true, decide_eq_true_eq, ne_eq] <;> bv_omega

/-- The gate's verdict on the sample the clock gives now. -/
theorem dueNow_iff_Due (s : State) : dueNow s = true ↔ Due s := by
  simp [dueNow, stepDue_eq_elapsed, BitVec.le_def]

/-- With the last step and the sample at the real times `t0 <= t1`, a due step is at least its interval late. -/
theorem interval_elapsed_of_Due {s : State} {t0 t1 : Nat} (h0 : s.lastStepTime = BitVec.ofNat 32 t0)
    (h1 : clockNow s = BitVec.ofNat 32 t1) (hle : t0 ≤ t1) (hd : Due s) :
    s.stepInterval ≠ 0#32 ∧ t0 + s.stepInterval.toNat ≤ t1 := by
  obtain ⟨hi, hd⟩ := hd
  refine ⟨hi, ?_⟩
  simp only [h0, h1, BitVec.toNat_sub, BitVec.toNat_ofNat] at hd
  omega

/-- The converse while the clock has not gone round since the last step. -/
theorem Due_of_interval_elapsed {s : State} {t0 t1 : Nat} (h0 : s.lastStepTime = BitVec.ofNat 32 t0)
    (h1 : clockNow s = BitVec.ofNat 32 t1) (hround : t1 < t0 + 2 ^ 32) (hi : s.stepInterval ≠ 0#32)
    (he : t0 + s.stepInterval.toNat ≤ t1) : Due s := by
  refine ⟨hi, ?_⟩
  simp only [h0, h1, BitVec.toNat_sub, BitVec.toNat_ofNat]
  omega

/-- `RUN_SPEED` with a legal topology completes, and its last log entry is its response: 1 exactly when due. -/
theorem execWith_runSpeed_response (P : Params) {s : State} (hl : legalTopology s.topology = true) :
    ∃ t, execWith P .runSpeed s = .next t ∧ (t.log.getLast? = some (.response 1#32) ↔ Due s) := by
  rw [← dueNow_iff_Due]
  rcases runSpeedBody_cases P s with ⟨hd, e⟩ | ⟨hd, -, u, e, -⟩ | ⟨-, hl', -⟩
  · exact ⟨respond 0#32 (takeSample s), by simp [execWith, runSpeedWith, e, respondBool, boolResponse],
      by simp [respond, emit, hd]⟩
  · exact ⟨respond 1#32 u, by simp [execWith, runSpeedWith, e, respondBool, boolResponse],
      by simp [respond, emit, hd]⟩
  · exact absurd hl (by simp [hl'])

/-- Settles O29: `RUN_SPEED` responds 1 exactly when the interval has elapsed modulo 2^32, which the real times
decide. -/
theorem noStepBeforeItsInterval : Obligations.NoStepBeforeItsInterval := by
  intro s t0 t1 h0 h1 hle hl
  obtain ⟨t, hrun, hresp⟩ := execWith_runSpeed_response params hl
  exact ⟨t, (execWith_params _ _).symm.trans hrun, fun h => interval_elapsed_of_Due h0 h1 hle (hresp.mp h),
    fun hround hi he => hresp.mpr (Due_of_interval_elapsed h0 h1 hround hi he)⟩

end Sys2Proof.Machine

/-! Proofs: what driving a table row leaves, whatever the tables and the pin order (spec/42_pattern.md R180 to
R187). -/

namespace Sys2Proof.Machine

open Sys2Proof.Config Sys2Proof.Claim

/-! ### Pins -/

theorem pinsGet_pinsSet (v : Pins) (p q : Pin) (lv : Level) :
    pinsGet (pinsSet v p lv) q = if q = p then lv else pinsGet v q := by
  cases p <;> cases q <;> rfl

theorem pins_ext {v w : Pins} (h : ∀ p, pinsGet v p = pinsGet w p) : v = w := by
  cases v
  cases w
  rw [Pins.mk.injEq]
  exact ⟨h .p1, h .p2, h .p3, h .p4⟩

/-- The pins after each listed pin took its level of `levels`. -/
def pinsAfter (levels : Pins) (ps : List Pin) (v : Pins) : Pins :=
  ps.foldl (fun v p => pinsSet v p (pinsGet levels p)) v

theorem pinsGet_pinsAfter (levels : Pins) (ps : List Pin) (v : Pins) (q : Pin) :
    pinsGet (pinsAfter levels ps v) q = if q ∈ ps then pinsGet levels q else pinsGet v q := by
  induction ps generalizing v with
  | nil => simp [pinsAfter]
  | cons p ps ih =>
    have h := ih (pinsSet v p (pinsGet levels p))
    rw [pinsGet_pinsSet] at h
    by_cases hq : q = p <;> simp_all [pinsAfter]

/-! ### Driving a row -/

/-- Writing pins one after the other changes the latches and adds one event per write. -/
theorem foldl_pinWrite (levels : Pins) (ps : List Pin) (s : State) :
    ps.foldl (fun s p => pinWrite p (pinsGet levels p) s) s =
      { s with pin := pinsAfter levels ps s.pin,
               log := s.log ++ ps.map (fun p => .pin p (pinsGet levels p)) } := by
  induction ps generalizing s with
  | nil => simp [pinsAfter]
  | cons p ps ih =>
    rw [List.foldl_cons, ih]
    simp [pinsAfter, pinWrite, emit, setPin]

/-- `DRIVE_TABLE` over the pins `used`, those numbered 1 to `n`. -/
theorem driveTable_eq (P : Params) (row v : Pins) {n : Nat} {used : List Pin} (s : State)
    (hn : ∀ p, pinNumber p ≤ n ↔ p ∈ used)
    (hv : ∀ q, pinsGet v q = if q ∈ P.pinOrder ∧ q ∈ used then pinsGet row q else pinsGet s.pin q) :
    driveTable P row n s = { s with pin := v, log := s.log ++ rowEvents P.pinOrder used row } := by
  have hget : pinsGet row = rowLevel row := funext fun p => by cases p <;> rfl
  have hpins : pinsAfter row (P.pinOrder.filter (fun p => decide (p ∈ used))) s.pin = v :=
    pins_ext fun q => by simp [pinsGet_pinsAfter, hv]
  simp only [driveTable, hn]
  rw [foldl_pinWrite, hpins, rowEvents, hget]

theorem mem_of_pinOrderLegal {o : List Pin} (h : pinOrderLegal o = true) (p : Pin) : p ∈ o :=
  (of_decide_eq_true h).mem_iff.mpr (by cases p <;> decide)

theorem pinOrderLegal_of_paramsLegal {P : Params} (h : paramsLegal P = true) : pinOrderLegal P.pinOrder = true := by
  simp only [paramsLegal, Bool.and_eq_true] at h
  exact h.2

/-- Two wires: P1 and P2 take the row, P3 and P4 keep their levels. -/
theorem driveTable_two {P : Params} (ho : pinOrderLegal P.pinOrder = true) (row : Pins) (s : State) :
    driveTable P row 2 s = { s with pin := { s.pin with p1 := row.p1, p2 := row.p2 },
                                    log := s.log ++ rowEvents P.pinOrder [.p1, .p2] row } :=
  driveTable_eq P row _ s (fun p => by cases p <;> decide)
    (fun q => by cases q <;> simp [mem_of_pinOrderLegal ho, pinsGet])

/-- Four wires: every pin takes the row. -/
theorem driveTable_four {P : Params} (ho : pinOrderLegal P.pinOrder = true) (row : Pins) (s : State) :
    driveTable P row 4 s = { s with pin := row, log := s.log ++ rowEvents P.pinOrder [.p1, .p2, .p3, .p4] row } :=
  driveTable_eq P row _ s (fun p => by cases p <;> decide)
    (fun q => by cases q <;> simp [mem_of_pinOrderLegal ho])

/-! ### The row the position selects -/

theorem phase_toNat (s : State) : s.phase.toNat = s.curPos.toNat % 8 := by simp [State.phase]

theorem getElem?_rowOf4 (t : Vector Pins 4) (s : State) : t[s.curPos.toNat % 4]? = some (rowOf4 t s.phase) := by
  have h : s.phase.toNat % 4 = s.curPos.toNat % 4 := by
    rw [phase_toNat]
    omega
  simp only [rowOf4, h]
  exact Vector.getElem?_eq_getElem _

theorem getElem?_rowOf8 (t : Vector Pins 8) (s : State) : t[s.curPos.toNat % 8]? = some (rowOf8 t s.phase) := by
  simp only [rowOf8, phase_toNat]
  exact Vector.getElem?_eq_getElem _

/-! ### `DRIVE_PINS` with a table -/

section Legal

variable {P : Params} (ho : pinOrderLegal P.pinOrder = true) (s : State)
include ho

theorem drivePins_topology2 (ht : s.topology = 2#4) : ∃ row, P.pat2[s.curPos.toNat % 4]? = some row ∧
    drivePins P s = .ok { s with pin := { s.pin with p1 := row.p1, p2 := row.p2 },
                                 log := s.log ++ rowEvents P.pinOrder [.p1, .p2] row } :=
  ⟨_, getElem?_rowOf4 P.pat2 s, by simp [drivePins, ht, driveTable_two ho]⟩

theorem drivePins_topology4 (ht : s.topology = 4#4) : ∃ row, P.pat4[s.curPos.toNat % 4]? = some row ∧
    drivePins P s = .ok { s with pin := row,
                                 log := s.log ++ rowEvents P.pinOrder [.p1, .p2, .p3, .p4] row } :=
  ⟨_, getElem?_rowOf4 P.pat4 s, by simp [drivePins, ht, driveTable_four ho]⟩

theorem drivePins_topology8 (ht : s.topology = 8#4) : ∃ row, P.pat8[s.curPos.toNat % 8]? = some row ∧
    drivePins P s = .ok { s with pin := row,
                                 log := s.log ++ rowEvents P.pinOrder [.p1, .p2, .p3, .p4] row } :=
  ⟨_, getElem?_rowOf8 P.pat8 s, by simp [drivePins, ht, driveTable_four ho]⟩

end Legal

/-! ### A due `RUN_SPEED` -/

/-- The state in which a due `RUN_SPEED` drives the pins: the sample is taken and the position is the new one. -/
def drivenFrom (s : State) : State := setCurPos (NextPos s) (takeSample s)

theorem steppedPos_of_Moving {s : State} (h : Moving s) : steppedPos s = NextPos s := by
  unfold steppedPos NextPos
  rcases h with h | h
  · simp [h]
  · simp [h]

/-- A due `RUN_SPEED` drives the pins from `drivenFrom`, then writes the time of the step and responds 1. -/
theorem execWith_runSpeed_of_Due {P : Params} {s u : State} (hd : Due s) (hm : Moving s)
    (hu : drivePins P (drivenFrom s) = .ok u) :
    execWith P .runSpeed s = .next (respond 1#32 (setLastStepTime (clockNow s) u)) := by
  have hpos : steppedPos (takeSample s) = NextPos s := steppedPos_of_Moving hm
  have hbody : runSpeedBody P s = .ok (true, setLastStepTime (clockNow s) u) := by
    rw [runSpeedBody, if_pos ((dueNow_iff_Due s).mpr hd), commitStep, hpos]
    exact congrArg (fun r => (r.map (setLastStepTime (clockNow s))).map (fun t => (true, t))) hu
  simp [execWith, runSpeedWith, hbody, respondBool, boolResponse]

/-- A due `RUN_SPEED` that drives pins `v` with the given events is a step with them. -/
theorem runSpeed_steppedTo {P : Params} {s : State} (hd : Due s) (hm : Moving s) {v : Pins} {events : List Output}
    (hu : drivePins P (drivenFrom s) =
      .ok { drivenFrom s with pin := v, log := (drivenFrom s).log ++ events }) :
    ∃ t, execWith P .runSpeed s = .next t ∧ SteppedTo v events s t :=
  ⟨_, execWith_runSpeed_of_Due hd hm hu, rfl⟩

/-- Settles O39: `DRIVE_PINS` by the fold over the pin order, `RUN_SPEED` by the same from the state with the new
position. -/
theorem everyTableDrivesItsRow : Obligations.EveryTableDrivesItsRow := by
  intro P s hP
  have ho := pinOrderLegal_of_paramsLegal hP
  refine ⟨drivePins_topology2 ho s, drivePins_topology4 ho s, drivePins_topology8 ho s, fun hd hm => ⟨?_, ?_, ?_⟩⟩
  · intro ht
    obtain ⟨row, hrow, hu⟩ := drivePins_topology2 ho (drivenFrom s) ht
    obtain ⟨t, hrun⟩ := runSpeed_steppedTo hd hm hu
    exact ⟨row, t, hrow, hrun⟩
  · intro ht
    obtain ⟨row, hrow, hu⟩ := drivePins_topology4 ho (drivenFrom s) ht
    obtain ⟨t, hrun⟩ := runSpeed_steppedTo hd hm hu
    exact ⟨row, t, hrow, hrun⟩
  · intro ht
    obtain ⟨row, hrow, hu⟩ := drivePins_topology8 ho (drivenFrom s) ht
    obtain ⟨t, hrun⟩ := runSpeed_steppedTo hd hm hu
    exact ⟨row, t, hrow, hrun⟩

end Sys2Proof.Machine

/-! Proofs: rounding to nearest, ties to even (spec/00_scope.md R11). The exact result enters only by how it compares
with the midpoints of two codes, so one argument serves the quotient and the root: with `f` strictly growing, the
midpoint of the codes `m` and `g` compares with the exact result as `f (units m + units g)` does with `N`. -/

namespace Sys2Proof.Machine

open Sys2Proof.Claim

/-! ### Nearest codes -/

/-- On `N`, the code `m` is at least as near as the code `g`, and on a tie it is even. -/
def NoFarther (f : Nat → Nat) (N m g : Nat) : Prop :=
  (m < g → N ≤ f (units m + units g)) ∧ (g < m → f (units m + units g) ≤ N) ∧
  (g ≠ m → N = f (units m + units g) → m % 2 = 0)

/-- The code `m` is a nearest one up to infinity's, the even one on a tie. -/
def NearestBy (f : Nat → Nat) (N m : Nat) : Prop := m ≤ infMag ∧ ∀ g, g ≤ infMag → NoFarther f N m g

theorem nearestCode_iff (m n d : Nat) : NearestCode m n d ↔ NearestBy (· * d) (2 * n) m := Iff.rfl

theorem nearestRoot_iff (m n : Nat) : NearestRoot m n ↔ NearestBy (· ^ 2) (4 * n) m := Iff.rfl

/-- The code `q` or the next, by the side of their midpoint on which `N` lies, and by evenness on the midpoint. -/
def roundAt (f : Nat → Nat) (N q : Nat) : Nat :=
  if f (units q + units (q + 1)) < N ∨ (f (units q + units (q + 1)) = N ∧ q % 2 = 1) then q + 1 else q

theorem roundAt_le (f : Nat → Nat) (N q : Nat) : roundAt f N q ≤ q + 1 := by
  unfold roundAt
  split <;> omega

section Midpoints

variable {f : Nat → Nat} (hf : StrictMono f) {N q m : Nat}
include hf

theorem noFarther_floor (hlo : f (2 * units q) ≤ N) (hmid : N ≤ f (units q + units (q + 1)))
    (htie : N = f (units q + units (q + 1)) → q % 2 = 0) (g : Nat) : NoFarther f N q g := by
  rcases lt_trichotomy g q with h | rfl | h
  · have : f (units q + units g) < f (2 * units q) := hf (by have := units_strictMono h; omega)
    exact ⟨by omega, by omega, by omega⟩
  · exact ⟨by omega, by omega, by omega⟩
  · have : f (units q + units (q + 1)) ≤ f (units q + units g) :=
      hf.monotone (by have := units_strictMono.monotone (show q + 1 ≤ g from h); omega)
    exact ⟨by omega, by omega, by omega⟩

theorem noFarther_ceil (hhi : N < f (2 * units (q + 1))) (hmid : f (units q + units (q + 1)) ≤ N)
    (htie : N = f (units q + units (q + 1)) → q % 2 = 1) (g : Nat) : NoFarther f N (q + 1) g := by
  rcases lt_trichotomy g (q + 1) with h | rfl | h
  · have : f (units (q + 1) + units g) ≤ f (units q + units (q + 1)) :=
      hf.monotone (by have := units_strictMono.monotone (show g ≤ q by omega); omega)
    exact ⟨by omega, by omega, by omega⟩
  · exact ⟨by omega, by omega, by omega⟩
  · have : f (2 * units (q + 1)) < f (units (q + 1) + units g) := hf (by have := units_strictMono h; omega)
    exact ⟨by omega, by omega, by omega⟩

/-- With the exact result from the code `q` on and below the next, `roundAt` is a nearest code. -/
theorem noFarther_roundAt (hlo : f (2 * units q) ≤ N) (hhi : N < f (2 * units (q + 1))) (g : Nat) :
    NoFarther f N (roundAt f N q) g := by
  unfold roundAt
  split
  · exact noFarther_ceil hf hhi (by omega) (by omega) g
  · exact noFarther_floor hf hlo (by omega) (by omega) g

/-- Saturating at infinity's code, which is even, keeps a code nearest among those up to infinity's. -/
theorem nearestBy_min (h : ∀ g, NoFarther f N m g) : NearestBy f N (min infMag m) := by
  refine ⟨Nat.min_le_left .., fun g hg => ?_⟩
  rcases Nat.lt_or_ge infMag m with hm | hm
  · rw [Nat.min_eq_left hm.le]
    obtain ⟨-, hbelow, -⟩ := h infMag
    have hinf : f (units m + units infMag) ≤ N := hbelow hm
    have : f (units infMag + units g) ≤ f (units m + units infMag) :=
      hf.monotone (by have := units_strictMono hm; have := units_strictMono.monotone hg; omega)
    exact ⟨by omega, by omega, fun _ _ => by decide⟩
  · rw [Nat.min_eq_right hm]
    exact h g

end Midpoints

/-! ### The code at or below a number -/

/-- The exponent of the quantum in which a number of units is rounded. -/
def quantumExp (x : Nat) : Nat := Nat.log2 (x / 2 ^ 23)

/-- The largest code whose value is not above `x` units. -/
def floorCode (x : Nat) : Nat := quantumExp x * 2 ^ 23 + x / 2 ^ quantumExp x

/-- In its quantum a number has at most 24 bits, and exactly 24 unless the quantum is one unit. -/
theorem significand_bounds (x : Nat) :
    x / 2 ^ quantumExp x < 2 ^ 24 ∧ (quantumExp x = 0 ∨ 2 ^ 23 ≤ x / 2 ^ quantumExp x) := by
  have hcomm : x / 2 ^ quantumExp x / 2 ^ 23 = x / 2 ^ 23 / 2 ^ quantumExp x := by
    rw [Nat.div_div_eq_div_mul, Nat.div_div_eq_div_mul, Nat.mul_comm]
  have hlt : x / 2 ^ 23 / 2 ^ quantumExp x < 2 := by
    rw [Nat.div_lt_iff_lt_mul (Nat.two_pow_pos _), ← Nat.pow_succ']
    exact Nat.lt_log2_self
  refine ⟨by omega, ?_⟩
  by_cases h0 : x / 2 ^ 23 = 0
  · exact .inl (by rw [quantumExp, h0, Nat.log2_zero])
  · have : 1 ≤ x / 2 ^ 23 / 2 ^ quantumExp x := Nat.div_pos (Nat.log2_self_le h0) (Nat.two_pow_pos _)
    omega

/-- The value of a code given by a quantum and a significand, which may carry into the exponent. -/
theorem units_scaled {k q : Nat} (hq : q ≤ 2 ^ 24) (hk : k = 0 ∨ 2 ^ 23 ≤ q) :
    units (k * 2 ^ 23 + q) = q * 2 ^ k := by
  rcases Nat.lt_or_ge q (2 ^ 23) with hsub | hnorm
  · obtain rfl : k = 0 := by omega
    simp [units_subnormal hsub]
  · rw [units_normal (by omega)]
    rcases hq.lt_or_eq with hlt | rfl
    · congr 2 <;> omega
    · have hm : (k * 2 ^ 23 + 2 ^ 24) % 2 ^ 23 = 0 := by omega
      have hd : (k * 2 ^ 23 + 2 ^ 24) / 2 ^ 23 - 1 = k + 1 := by omega
      rw [hm, hd]
      ring

theorem units_floorCode (x : Nat) : units (floorCode x) = x / 2 ^ quantumExp x * 2 ^ quantumExp x := by
  obtain ⟨hlt, hk⟩ := significand_bounds x
  exact units_scaled hlt.le hk

theorem units_floorCode_succ (x : Nat) :
    units (floorCode x + 1) = (x / 2 ^ quantumExp x + 1) * 2 ^ quantumExp x := by
  obtain ⟨hlt, hk⟩ := significand_bounds x
  rw [floorCode, Nat.add_assoc]
  exact units_scaled hlt (by omega)

theorem units_floorCode_le (x : Nat) : units (floorCode x) ≤ x := by
  rw [units_floorCode]
  exact Nat.div_mul_le_self ..

theorem lt_units_floorCode_succ (x : Nat) : x < units (floorCode x + 1) := by
  rw [units_floorCode_succ, Nat.mul_comm]
  exact Nat.lt_mul_div_succ x (Nat.two_pow_pos _)

theorem floorCode_mod_two (x : Nat) : floorCode x % 2 = x / 2 ^ quantumExp x % 2 := by
  unfold floorCode
  omega

/-! ### Rounding a quotient -/

/-- `roundUnits` rounds at the code below the quotient. -/
theorem roundUnits_eq_roundAt (n d : Nat) :
    roundUnits n d = min infMag (roundAt (· * d) (2 * n) (floorCode (n / d))) := by
  have hk : Nat.log2 (n / (d * 2 ^ 23)) = quantumExp (n / d) := by
    rw [quantumExp, Nat.div_div_eq_div_mul]
  have hmid : (units (floorCode (n / d)) + units (floorCode (n / d) + 1)) * d =
      2 * (d * 2 ^ quantumExp (n / d) * (n / (d * 2 ^ quantumExp (n / d)))) + d * 2 ^ quantumExp (n / d) := by
    rw [units_floorCode, units_floorCode_succ, Nat.div_div_eq_div_mul]
    ring
  have hpar := floorCode_mod_two (n / d)
  have hdiv := Nat.div_add_mod n (d * 2 ^ quantumExp (n / d))
  simp only [roundUnits, hk, roundEven, roundAt, hmid, hpar, Nat.div_div_eq_div_mul]
  congr 1
  simp only [floorCode, Nat.div_div_eq_div_mul]
  split <;> split <;> omega

theorem nearestCode_roundUnits (n : Nat) {d : Nat} (hd : 0 < d) : NearestCode (roundUnits n d) n d := by
  rw [roundUnits_eq_roundAt, nearestCode_iff]
  have hf : StrictMono (· * d) := fun _ _ h => Nat.mul_lt_mul_of_pos_right h hd
  refine nearestBy_min hf (noFarther_roundAt hf ?_ ?_)
  · have hle := (Nat.le_div_iff_mul_le hd).mp (units_floorCode_le (n / d))
    calc 2 * units (floorCode (n / d)) * d = 2 * (units (floorCode (n / d)) * d) := Nat.mul_assoc ..
      _ ≤ 2 * n := Nat.mul_le_mul_left 2 hle
  · have hlt := (Nat.div_lt_iff_lt_mul hd).mp (lt_units_floorCode_succ (n / d))
    calc 2 * n < 2 * (units (floorCode (n / d) + 1) * d) := Nat.mul_lt_mul_of_pos_left hlt Nat.two_pos
      _ = 2 * units (floorCode (n / d) + 1) * d := (Nat.mul_assoc ..).symm

/-! ### The four operations and the conversion -/

/-- What a packed rounded quotient is. -/
theorem pack_roundUnits_spec (b : Bool) (n : Nat) {d : Nat} (hd : 0 < d) :
    fsign (pack b (roundUnits n d)) = b ∧ NearestCode (fmag (pack b (roundUnits n d))) n d := by
  rw [fsign_pack b (roundUnits_lt n d), fmag_pack b (roundUnits_lt n d)]
  exact ⟨rfl, nearestCode_roundUnits n hd⟩

/-- A sum of finite values that is not zero is the rounded exact sum. -/
theorem ieeeAdd_finite {a b : F32} (ha : isFinite a = true) (hb : isFinite b = true)
    (h0 : funits a + funits b ≠ 0) :
    ieeeAdd a b = pack (decide (funits a + funits b < 0)) (roundUnits (funits a + funits b).natAbs 1) := by
  rw [isFinite_eq] at ha hb
  simp only [Bool.and_eq_true, Bool.not_eq_true'] at ha hb
  simp [ieeeAdd, ha, hb, h0]

theorem ieeeAdd_spec {a b : F32} (ha : isFinite a = true) (hb : isFinite b = true)
    (h0 : funits a + funits b ≠ 0) :
    (fsign (ieeeAdd a b) = true ↔ funits a + funits b < 0) ∧
      NearestCode (fmag (ieeeAdd a b)) (funits a + funits b).natAbs 1 := by
  rw [ieeeAdd_finite ha hb h0]
  obtain ⟨hsign, hnear⟩ := pack_roundUnits_spec (decide (funits a + funits b < 0)) (funits a + funits b).natAbs one_pos
  exact ⟨by rw [hsign, decide_eq_true_eq], hnear⟩

/-- A value that is no NaN and not zero, divided by a zero, is the infinity with the XOR of the signs. -/
theorem ieeeDiv_zero {a b : F32} (ha : isNaN a = false) (h0 : isZero a = false) (hb : isZero b = true) :
    ieeeDiv a b = pack (fsign a != fsign b) infMag := by
  have hb' : fmag b = 0 := by simpa [isZero] using hb
  have hnan : isNaN b = false := by simp [isNaN, hb']
  have hinf : isInf b = false := by simp [isInf, hb', infMag]
  simp [ieeeDiv, ha, h0, hb, hnan, hinf]

/-- Settles O17: every operation packs a quotient of whole numbers that `roundUnits` rounds. -/
theorem arithmeticRoundsToNearestEven : Obligations.ArithmeticRoundsToNearestEven := by
  refine ⟨fun a b ha hb h0 => ieeeAdd_spec ha hb h0, fun a b => rfl, fun a b ha hb => ?_, fun a b ha hb h0 => ?_,
    fun a b ha h0 hb => ?_, fun n _ => pack_roundUnits_spec false _ one_pos⟩
  · rw [ieeeMul_finite ha hb]
    exact pack_roundUnits_spec _ _ (Nat.two_pow_pos 149)
  · rw [ieeeDiv_finite ha hb h0]
    exact pack_roundUnits_spec _ _ (units_pos (Nat.pos_of_ne_zero (by simpa [isZero] using h0)))
  · rw [ieeeDiv_zero ha h0 hb, fsign_pack _ infMag_lt]
    exact ⟨by simp [isInf, fmag_pack _ infMag_lt], rfl⟩

/-! ### The integer square root -/

theorem natSqrt_div_sq (n : Nat) {b : Nat} (hb : 0 < b) : Nat.sqrt (n / b ^ 2) = Nat.sqrt n / b := by
  refine eq_of_forall_le_iff fun c => ?_
  rw [Nat.le_sqrt', Nat.le_div_iff_mul_le (Nat.pow_pos hb), Nat.le_div_iff_mul_le hb, Nat.le_sqrt', Nat.mul_pow]

theorem isqrtAux_eq_sqrt {fuel n : Nat} (h : n < 4 ^ fuel) : isqrtAux fuel n = Nat.sqrt n := by
  induction fuel generalizing n with
  | zero =>
    obtain rfl : n = 0 := by simpa using h
    rfl
  | succ fuel ih =>
    have hquarter : isqrtAux fuel (n / 4) = Nat.sqrt n / 2 := by
      rw [ih (by rw [Nat.pow_succ] at h; omega)]
      exact natSqrt_div_sq n Nat.two_pos
    have hbit : (2 * (Nat.sqrt n / 2) + 1) * (2 * (Nat.sqrt n / 2) + 1) ≤ n ↔ 2 * (Nat.sqrt n / 2) + 1 ≤ Nat.sqrt n :=
      Nat.le_sqrt.symm
    simp only [isqrtAux, hquarter, hbit]
    split <;> omega

theorem isqrt_eq_sqrt (n : Nat) : isqrt n = Nat.sqrt n := by
  refine isqrtAux_eq_sqrt ?_
  calc n < 2 ^ (n.log2 + 1) := Nat.lt_log2_self
    _ ≤ 2 ^ (2 * (n.log2 / 2 + 1)) := Nat.pow_le_pow_right Nat.two_pos (by omega)
    _ = 4 ^ (n.log2 / 2 + 1) := by rw [Nat.pow_mul]

/-! ### Rounding a root -/

theorem strictMono_sq : StrictMono (fun x : Nat => x ^ 2) := Nat.pow_left_strictMono two_ne_zero

/-- `sqrtUnits` rounds at the code below the root. -/
theorem sqrtUnits_eq_roundAt (n : Nat) :
    sqrtUnits n = roundAt (· ^ 2) (4 * n) (floorCode (Nat.sqrt n)) := by
  have hq : Nat.sqrt (n / 4 ^ quantumExp (Nat.sqrt n)) = Nat.sqrt n / 2 ^ quantumExp (Nat.sqrt n) := by
    rw [← natSqrt_div_sq n (Nat.two_pow_pos _), Nat.pow_right_comm]
  have hmid : (units (floorCode (Nat.sqrt n)) + units (floorCode (Nat.sqrt n) + 1)) ^ 2 =
      (2 * (Nat.sqrt n / 2 ^ quantumExp (Nat.sqrt n)) + 1) * (2 * (Nat.sqrt n / 2 ^ quantumExp (Nat.sqrt n)) + 1) *
        4 ^ quantumExp (Nat.sqrt n) := by
    have hfour : 4 ^ quantumExp (Nat.sqrt n) = (2 ^ quantumExp (Nat.sqrt n)) ^ 2 := Nat.pow_right_comm 2 2 _
    rw [units_floorCode, units_floorCode_succ, hfour]
    ring
  simp only [sqrtUnits, isqrt_eq_sqrt, roundAt, hmid, floorCode_mod_two]
  rw [← quantumExp, hq, floorCode]
  split <;> omega

/-- The root of a number below the square of infinity's value rounds to a nearest code. -/
theorem nearestRoot_sqrtUnits {n : Nat} (hn : n < units infMag ^ 2) : NearestRoot (sqrtUnits n) n := by
  have hcode : floorCode (Nat.sqrt n) < infMag :=
    units_strictMono.lt_iff_lt.mp ((units_floorCode_le _).trans_lt (Nat.sqrt_lt'.mpr hn))
  rw [nearestRoot_iff, sqrtUnits_eq_roundAt,
    ← Nat.min_eq_right ((roundAt_le (· ^ 2) (4 * n) _).trans hcode)]
  refine nearestBy_min strictMono_sq (noFarther_roundAt strictMono_sq ?_ ?_)
  · calc (2 * units (floorCode (Nat.sqrt n))) ^ 2 = 4 * units (floorCode (Nat.sqrt n)) ^ 2 := Nat.mul_pow ..
      _ ≤ 4 * n := Nat.mul_le_mul_left 4 (Nat.le_sqrt'.mp (units_floorCode_le _))
  · calc 4 * n < 4 * units (floorCode (Nat.sqrt n) + 1) ^ 2 :=
          Nat.mul_lt_mul_of_pos_left (Nat.sqrt_lt'.mp (lt_units_floorCode_succ _)) (by decide)
      _ = (2 * units (floorCode (Nat.sqrt n) + 1)) ^ 2 := by ring

theorem two_pow_le_units_infMag : 2 ^ 149 ≤ units infMag := by
  rw [units_normal (by decide)]
  decide

/-- The root of a zero is that zero. -/
theorem nearestRoot_zero : NearestRoot 0 0 :=
  ⟨Nat.zero_le _, fun _ _ => ⟨by simp, by simp, by simp⟩⟩

/-- Settles O18: a zero is its own root, and every other root is rounded by `sqrtUnits` and does not overflow. -/
theorem squareRootRoundsToNearestEven : Obligations.SquareRootRoundsToNearestEven := by
  intro a ha hs
  have hmag : fmag a < infMag := by simpa [isFinite] using ha
  by_cases h0 : isZero a = true
  · have hz : fmag a = 0 := by simpa [isZero] using h0
    simp [ieeeSqrt, h0, hz, units_zero, nearestRoot_zero]
  · have hpos : fsign a = false := hs.resolve_right h0
    have hn : units (fmag a) * 2 ^ 149 < units infMag ^ 2 := by
      rw [Nat.pow_two]
      exact Nat.mul_lt_mul_of_lt_of_le (units_strictMono hmag) two_pow_le_units_infMag (units_pos (by decide))
    have hroot := nearestRoot_sqrtUnits hn
    have hlt : sqrtUnits (units (fmag a) * 2 ^ 149) < 2 ^ 31 := hroot.1.trans_lt infMag_lt
    have hval : ieeeSqrt a = pack false (sqrtUnits (units (fmag a) * 2 ^ 149)) := by
      have hinf : isInf a = false := by simpa [isInf] using hmag.ne
      simp [ieeeSqrt, h0, isNaN_of_isFinite ha, hpos, hinf]
    rw [hval, fsign_pack _ hlt, fmag_pack _ hlt, hpos]
    exact ⟨rfl, hroot⟩

end Sys2Proof.Machine

/-! Proofs: the values reset leaves, and the model's reset state as the state a reset leaves (spec/10_state.md R49,
spec/70_reset_and_hazards.md R300, R301). -/

namespace Sys2Proof.Machine

open Sys2Proof.Config Sys2Proof.Claim

/-- A reset leaves the reset registers; an illegal strap shows in `STATUS` only, as its fault frame is 0. -/
theorem resetCore_eq (strap : BitVec 4) (s : State) :
    resetCore strap s =
      setStatus (if legalTopology strap then 0x00000000#32 else 0x00010102#32) (resetRegisters strap s) := by
  have hstatus : faultStatus .invalidTopology (resetRegisters strap s).status = 0x00010102#32 :=
    show faultStatus .invalidTopology 0x00000000#32 = _ by decide
  have hframe : (if (resetRegisters strap s).faulted then (resetRegisters strap s).faultFrame else 0#64) = 0#64 :=
    ite_self _
  rw [resetCore, recordFault, hstatus, hframe]
  split <;> rfl

/-- The model's reset state is what a first reset with its strap leaves. -/
theorem reset_eq_resetCore : State.reset = resetCore resetStrap { State.reset with resets := 0 } := rfl

theorem legalTopology_iff (t : BitVec 4) :
    legalTopology t = true ↔ t = 0#4 ∨ t = 1#4 ∨ t = 2#4 ∨ t = 4#4 ∨ t = 8#4 := by
  simp [legalTopology, or_assoc]

theorem resetValues_resetCore (strap : BitVec 4) (s : State) : ResetValues strap (resetCore strap s) := by
  have hconfig : (strap.setWidth 32).toNat = strap.toNat := BitVec.toNat_setWidth_of_le (by decide)
  rw [resetCore_eq]
  exact ⟨rfl, rfl, rfl, rfl, rfl, rfl, rfl, rfl, hconfig, rfl, if_congr (legalTopology_iff strap) rfl rfl, rfl, rfl⟩

theorem abandon_eq_next {strap : BitVec 4} {n : Nat} {s t : State} {work : Host.Outcome State Fault Refusal}
    (h : abandon strap n s work = .next t) : ∃ u, work = .next u ∧ t = resetDuringWork strap n s u := by
  cases work with
  | next u => exact ⟨u, rfl, (Host.Outcome.next.inj h).symm⟩
  | fault e => cases h
  | refused r => cases h

/-- What a step that completes leaves: what a reset leaves of some state, also where it abandons work, or what the
core's work leaves where no reset comes. -/
theorem step_eq_next {s t : State} (h : step s = .next t) :
    (∃ strap u, ResetNext strap s ∧ t = resetCore strap u) ∨
    ((∀ strap, ¬ ResetNext strap s) ∧ workStepBy params exec s = .next t) := by
  rcases portStepBy_cases params exec s with ⟨strap, rest, hh, e⟩ | ⟨strap, n, rest, hh, e⟩ | ⟨hno, hno', e⟩
  · exact .inl ⟨strap, _, .inl (by rw [hh]; rfl), Host.Outcome.next.inj (h.symm.trans e)⟩
  · obtain ⟨u, -, ht⟩ := abandon_eq_next (e.symm.trans h)
    exact .inl ⟨strap, _, .inr ⟨n, by rw [hh]; rfl⟩, ht⟩
  · refine .inr ⟨fun strap hr => ?_, e.symm.trans h⟩
    rcases hr with hr | ⟨n, hr⟩ <;> obtain ⟨rest, hh⟩ := List.head?_eq_some_iff.mp hr
    · exact hno strap rest hh
    · exact hno' strap n rest hh

theorem resetNext_unique {s : State} {strap k : BitVec 4} (h : ResetNext strap s) (hk : ResetNext k s) : k = strap := by
  rcases h with h | ⟨n, h⟩ <;> rcases hk with hk | ⟨m, hk⟩ <;> simp_all

/-- Settles O10: a step in which a reset comes leaves what `resetCore` leaves. -/
theorem resetLeavesTheseValues : Obligations.ResetLeavesTheseValues := by
  have hvalues (s t : State) (strap : BitVec 4) (hr : ResetNext strap s) (h : step s = .next t) :
      ResetValues strap t := by
    rcases step_eq_next h with ⟨k, u, hk, rfl⟩ | ⟨hno, -⟩
    · obtain rfl := resetNext_unique hr hk
      exact resetValues_resetCore k u
    · exact absurd hr (hno strap)
  refine ⟨fun s strap rest hh => ?_, hvalues⟩
  have hnext : step s = .next (resetCore strap (dropMove s)) := by simp [step, portStep, portStepBy, hh]
  exact ⟨_, hnext, resetValues_resetCore strap _⟩

/-- Settles O13: the reset state is what a reset leaves, and with no move of the host an idle core waits. -/
theorem resetStateWaits : Obligations.ResetStateWaits :=
  ⟨reset_eq_resetCore ▸ resetValues_resetCore resetStrap _, rfl⟩

end Sys2Proof.Machine

/-! Proofs: the speed write path keeps the motion registers legal (spec/40_profile.md R129 to R132; spec/10_state.md
R35, R36, R48). A new `MAX_SPEED` may leave `SPEED` out of its range until the recomputation, so what the path needs of
the speed before it is only that it is finite. -/

namespace Sys2Proof.Machine

open Sys2Proof.Config Sys2Proof.Claim

/-! ### Results that are no NaN -/

theorem isFinite_iff_fkey (a : F32) : isFinite a = true ↔ -(infMag : Int) < fkey a ∧ fkey a < infMag := by
  simp only [isFinite, decide_eq_true_eq, fkey]
  split <;> omega

theorem fsign_of_pos {a : F32} (h : flt plusZero a = true) : fsign a = false := by
  obtain ⟨-, -, hkey⟩ := flt_iff.mp h
  rw [fkey_plusZero, fkey] at hkey
  cases hs : fsign a with
  | false => rfl
  | true =>
    rw [if_pos hs] at hkey
    omega

theorem isNaN_ieeeAdd {a b : F32} (ha : isFinite a = true) (hb : isNaN b = false) : isNaN (ieeeAdd a b) = false := by
  cases hinf : isInf b with
  | false => exact isNaN_ieeeAdd_finite ha (by simp [isFinite_eq, hb, hinf])
  | true =>
    have hsum : ieeeAdd a b = b := by
      rw [isFinite_eq, Bool.and_eq_true, Bool.not_eq_true', Bool.not_eq_true'] at ha
      simp [ieeeAdd, ha, hb, hinf]
    rwa [hsum]

theorem isNaN_ieeeDiv {a b : F32} (ha : isFinite a = true) (hb : isFinite b = true) (h0 : isZero b = false) :
    isNaN (ieeeDiv a b) = false := by
  rw [ieeeDiv_finite ha hb h0]
  exact isNaN_pack _ (roundUnits_le _ _)

theorem isNaN_ieeeSqrt {a : F32} (ha : isNaN a = false) (hs : fsign a = false) : isNaN (ieeeSqrt a) = false := by
  cases hinf : isInf a with
  | false =>
    obtain ⟨-, hle, -⟩ := squareRootRoundsToNearestEven a (by simp [isFinite_eq, ha, hinf]) (.inl hs)
    simpa [isNaN] using hle
  | true =>
    have hroot : ieeeSqrt a = a := by simp [ieeeSqrt, ha, hs, hinf]
    rwa [hroot]

theorem isNaN_ite {c : Prop} [Decidable c] {a b : F32} (ha : c → isNaN a = false) (hb : ¬c → isNaN b = false) :
    isNaN (if c then a else b) = false := by
  split
  · exact ha ‹_›
  · exact hb ‹_›

/-! ### The premises of the speed write path -/

/-- What the speed write path needs: `MAX_SPEED` and `ACCEL` in range (R35, R36), `SPEED` finite but not yet within
`MAX_SPEED`, and its interval (R48.2). -/
structure SpeedWritable (s : State) : Prop where
  maxSpeed_finite : isFinite s.maxSpeed = true
  maxSpeed_nonneg : fle plusZero s.maxSpeed = true
  accel_finite : isFinite s.accel = true
  accel_pos : flt plusZero s.accel = true
  speed_finite : isFinite s.speed = true
  interval : s.stepInterval = intervalOf params s.speed

/-- A speed within a finite maximum is finite. -/
theorem speed_finite_of_legal {s : State} (h : RegistersLegal s) : isFinite s.speed = true := by
  have hmax := (isFinite_iff_fkey _).mp h.maxSpeed_finite
  obtain ⟨-, -, habove⟩ := fle_iff.mp h.speed_above
  obtain ⟨-, -, hbelow⟩ := fle_iff.mp h.speed_below
  rw [fkey_fneg] at habove
  exact (isFinite_iff_fkey _).mpr ⟨by omega, by omega⟩

/-- The motion part of the invariant (R35, R36, R48): the registers in range, and the interval of the speed. -/
def MotionLegal (s : State) : Prop := RegistersLegal s ∧ s.stepInterval = intervalOf params s.speed

theorem speedWritable_of_motionLegal {s : State} (h : MotionLegal s) : SpeedWritable s := by
  obtain ⟨hl, hint⟩ := h
  exact ⟨hl.maxSpeed_finite, hl.maxSpeed_nonneg, hl.accel_finite, hl.accel_pos, speed_finite_of_legal hl, hint⟩

/-! ### The profile yields no NaN -/

theorem isNaN_jumpStart {s : State} (h : SpeedWritable s) : isNaN (jumpStart params s) = false := by
  have hmul := ieeeMul_finite (a := two) (by decide) h.accel_finite
  have hsign : (fsign two != fsign s.accel) = false := by rw [fsign_of_pos h.accel_pos]; decide
  rw [hsign] at hmul
  refine isNaN_ieeeSqrt (a := ieeeMul two s.accel) ?_ ?_ <;> rw [hmul]
  · exact isNaN_pack _ (roundUnits_le _ _)
  · exact fsign_pack _ (roundUnits_lt _ _)

theorem isNaN_speedChange {s : State} (h : SpeedWritable s) (h0 : ¬ feq s.speed plusZero = true) :
    isNaN (speedChange params s) = false := by
  have hz : isZero s.speed = false := by
    rw [feq_of_not_nan (isNaN_of_isFinite h.speed_finite) isNaN_plusZero, fkey_plusZero, decide_eq_true_eq,
      fkey_eq_zero_iff] at h0
    simpa using h0
  exact (isNaN_fabs _).trans (isNaN_ieeeDiv h.accel_finite h.speed_finite hz)

theorem isNaN_raisedGeneric {s : State} (h : SpeedWritable s) : isNaN (raisedGeneric params s) = false :=
  isNaN_ite (fun _ => isNaN_of_isFinite h.maxSpeed_finite) fun _ =>
    isNaN_ite (fun _ => isNaN_jumpStart h) fun h0 => isNaN_ieeeAdd h.speed_finite (isNaN_speedChange h h0)

theorem isNaN_loweredGeneric {s : State} (h : SpeedWritable s) : isNaN (loweredGeneric params s) = false :=
  isNaN_ite (fun _ => (isNaN_fneg _).trans (isNaN_of_isFinite h.maxSpeed_finite)) fun _ =>
    isNaN_ite (fun _ => (isNaN_fneg _).trans (isNaN_jumpStart h)) fun h0 =>
      isNaN_ieeeAdd h.speed_finite ((isNaN_fneg _).trans (isNaN_speedChange h h0))

/-- R129's first part, also where `SPEED` is not yet within `MAX_SPEED`. -/
theorem isNaN_desiredSpeed {s : State} (h : SpeedWritable s) : isNaN (desiredSpeed params s) = false := by
  have hmax := isNaN_of_isFinite h.maxSpeed_finite
  unfold desiredSpeed raisedSpeed loweredSpeed
  split_ifs
  · exact isNaN_plusZero
  · exact hmax
  · exact isNaN_raisedGeneric h
  · exact (isNaN_fneg _).trans hmax
  · exact isNaN_loweredGeneric h
  · exact isNaN_of_isFinite h.speed_finite

/-! ### The speed written is legal -/

/-- R130: what `APPLY_SPEED` writes lies within a maximum that is not negative. -/
theorem clampSpeed_within {m v : F32} (hm : isNaN m = false) (h0 : fle plusZero m = true) (hv : isNaN v = false) :
    fle (fneg m) (clampSpeed m v) = true ∧ fle (clampSpeed m v) m = true := by
  have hm' : isNaN (fneg m) = false := (isNaN_fneg m).trans hm
  rw [fle_of_not_nan isNaN_plusZero hm, fkey_plusZero, decide_eq_true_eq] at h0
  simp only [clampSpeed, flt_of_not_nan, isNaN_plusZero, hm, hm', hv, fkey_plusZero, fkey_fneg, Bool.and_eq_true,
    decide_eq_true_eq]
  split_ifs <;> simp only [fle_of_not_nan, hm, hm', hv, fkey_fneg, decide_eq_true_eq] <;> omega

/-- `APPLY_SPEED` of a value that is no NaN leaves legal motion registers and their interval. -/
theorem motionLegal_applySpeed {s : State} (h : SpeedWritable s) {v : F32} (hv : isNaN v = false) :
    MotionLegal (applySpeed params v s) := by
  obtain ⟨hm, h0, ha, hpos, -, hint⟩ := h
  rcases applySpeed_cases params v s with ⟨hsame, e⟩ | ⟨-, e⟩ <;> rw [e]
  · simp only [speedUnchanged, Bool.and_eq_true] at hsame
    obtain ⟨⟨-, habove⟩, hbelow⟩ := hsame
    exact ⟨⟨hm, h0, ha, hpos, habove, hbelow⟩, hint⟩
  · obtain ⟨habove, hbelow⟩ := clampSpeed_within (isNaN_of_isFinite hm) h0 hv
    exact ⟨⟨hm, h0, ha, hpos, habove, hbelow⟩, rfl⟩

theorem motionLegal_computeNewSpeed {s : State} (h : SpeedWritable s) : MotionLegal (computeNewSpeed params s) :=
  motionLegal_applySpeed h (isNaN_desiredSpeed h)

end Sys2Proof.Machine

/-! Proofs: what each command that completes leaves, said once, and from it which registers a command writes
(spec/43_commands.md R210 to R239; spec/10_state.md R50). -/

namespace Sys2Proof.Machine

open Sys2Proof.Config Sys2Proof.Claim

/-! ### What a command leaves -/

/-- `Performed s i t`: the command `i`, performed in `s`, can leave `t`. A refused operand has a case of its own, and a
run command one for each way its body can go. -/
inductive Performed (s : State) : Instr → State → Prop where
  | readBack {i : Instr} (hi : isReadBack i = true) (v : U32) : Performed s i (respond v s)
  | moveTo (p : S32) : Performed s (.moveTo p) (respond 0#32 (computeNewSpeed params (setTgtPos p s)))
  | move (r : S32) : Performed s (.move r) (respond 0#32 (computeNewSpeed params (setTgtPos (s.curPos + r) s)))
  | setCurrentPosition (p : S32) :
    Performed s (.setCurrentPosition p) (respond 0#32 (computeNewSpeed params (setTgtPos p (setCurPos p s))))
  | setMaxSpeed {v : F32} (hv : maxSpeedRefused v = false) :
    Performed s (.setMaxSpeed v) (respond 0#32 (computeNewSpeed params (setMaxSpeed v s)))
  | refuseMaxSpeed {v : F32} (hv : maxSpeedRefused v = true) :
    Performed s (.setMaxSpeed v) (raiseFault .invalidMaxSpeed (encode (.setMaxSpeed v)) s)
  | setAcceleration {a : F32} (ha : accelerationRefused a = false) :
    Performed s (.setAcceleration a) (respond 0#32 (computeNewSpeed params (setAccel a s)))
  | refuseAcceleration {a : F32} (ha : accelerationRefused a = true) :
    Performed s (.setAcceleration a) (raiseFault .invalidAcceleration (encode (.setAcceleration a)) s)
  | setSpeed {v : F32} (hv : speedRefused v = false) :
    Performed s (.setSpeed v) (respond 0#32 (applySpeed params v s))
  | refuseSpeed {v : F32} (hv : speedRefused v = true) :
    Performed s (.setSpeed v) (raiseFault .invalidSpeed (encode (.setSpeed v)) s)
  | setMinPulseWidth (w : U16) : Performed s (.setMinPulseWidth w) (respond 0#32 (setMinPulseWidth w s))
  | atTarget {i : Instr} (hi : i = .run ∨ i = .runSpeedToPosition) (h : s.curPos = s.tgtPos) :
    Performed s i (respond 0#32 s)
  | notDue {i : Instr} (hi : StepsOnce i) (hd : dueNow s = false) (b : Bool) :
    Performed s i (respond (boolResponse b) (takeSample s))
  | stepped {i : Instr} (hi : i = .runSpeed ∨ i = .runSpeedToPosition) {u : State}
    (hu : runSpeedBody params s = .ok (true, u)) : Performed s i (respond 1#32 u)
  | ran {u : State} (hu : runSpeedBody params s = .ok (true, u)) :
    Performed s .run (respond 1#32 (computeNewSpeed params u))
  | runToPosition : Performed s .runToPosition (enterBusy s)
  | runToNewPosition (p : S32) :
    Performed s (.runToNewPosition p) (enterBusy (computeNewSpeed params (setTgtPos p s)))

/-- A run command completes where its body does, and responds with the body's verdict. -/
theorem respondBool_eq_next {r : Except Fault (Bool × State)} {t : State} (h : respondBool r = .next t) :
    ∃ b u, r = .ok (b, u) ∧ t = respond (boolResponse b) u := by
  cases r with
  | error e => cases h
  | ok r => exact ⟨r.1, r.2, rfl, (Host.Outcome.next.inj h).symm⟩

theorem runSpeedBody_eq_ok {P : Params} {s u : State} {b : Bool} (h : runSpeedBody P s = .ok (b, u)) :
    (b = false ∧ dueNow s = false ∧ u = takeSample s) ∨
      (b = true ∧ dueNow s = true ∧ SteppedFrom (clockNow s) (takeSample s) u) := by
  rcases runSpeedBody_cases P s with ⟨hd, e⟩ | ⟨hd, -, t, e, hs⟩ | ⟨-, -, e⟩ <;> rw [h] at e <;> cases e
  · exact .inl ⟨rfl, hd, rfl⟩
  · exact .inr ⟨rfl, hd, hs⟩

theorem performed_runSpeed {i : Instr} {s u : State} {b : Bool} (hi : i = .runSpeed ∨ i = .runSpeedToPosition)
    (h : runSpeedBody params s = .ok (b, u)) : Performed s i (respond (boolResponse b) u) := by
  rcases runSpeedBody_eq_ok h with ⟨rfl, hd, rfl⟩ | ⟨rfl, -, -⟩
  · exact .notDue (.inr hi) hd false
  · exact .stepped hi h

theorem performed_run {s u : State} {b : Bool} (h : runBody params s = .ok (b, u)) :
    Performed s .run (respond (boolResponse b) u) := by
  rcases runBody_cases params s with ⟨hp, e⟩ | ⟨-, hd, e⟩ | ⟨-, -, -, v, hv, -, e⟩ | ⟨-, -, -, e⟩ <;> rw [h] at e <;>
    cases e
  · exact .atTarget (.inl rfl) hp
  · exact .notDue (.inl rfl) hd true
  · exact .ran hv

theorem performed_runSpeedToPosition {s u : State} {b : Bool} (h : runSpeedToPositionBody params s = .ok (b, u)) :
    Performed s .runSpeedToPosition (respond (boolResponse b) u) := by
  unfold runSpeedToPositionBody at h
  split at h
  · cases h
    exact .atTarget (.inr rfl) ‹_›
  · exact performed_runSpeed (.inr rfl) h

/-- What a command can leave (R210 to R239). -/
theorem performed_of_exec {i : Instr} {s t : State} (h : exec i s = .next t) : Performed s i t := by
  cases i with
  | moveTo p => cases h; exact .moveTo p
  | move r => cases h; exact .move r
  | setCurrentPosition p => cases h; exact .setCurrentPosition p
  | setMaxSpeed v =>
    simp only [exec, execSetMaxSpeed, setMaxSpeedWith] at h
    split at h <;> cases h
    · exact .refuseMaxSpeed ‹_›
    · exact .setMaxSpeed (Bool.not_eq_true _ ▸ ‹_›)
  | setAcceleration a =>
    simp only [exec, execSetAcceleration, setAccelerationWith] at h
    split at h <;> cases h
    · exact .refuseAcceleration ‹_›
    · exact .setAcceleration (Bool.not_eq_true _ ▸ ‹_›)
  | setSpeed v =>
    simp only [exec, execSetSpeed, setSpeedWith] at h
    split at h <;> cases h
    · exact .refuseSpeed ‹_›
    · exact .setSpeed (Bool.not_eq_true _ ▸ ‹_›)
  | setMinPulseWidth w => cases h; exact .setMinPulseWidth w
  | run =>
    obtain ⟨b, u, hu, rfl⟩ := respondBool_eq_next h
    exact performed_run hu
  | runSpeed =>
    obtain ⟨b, u, hu, rfl⟩ := respondBool_eq_next h
    exact performed_runSpeed (.inl rfl) hu
  | runSpeedToPosition =>
    obtain ⟨b, u, hu, rfl⟩ := respondBool_eq_next h
    exact performed_runSpeedToPosition hu
  | runToPosition => cases h; exact .runToPosition
  | runToNewPosition p => cases h; exact .runToNewPosition p
  | _ => cases h; exact .readBack rfl _

/-! ### Who writes what -/

theorem drivePins_waits {P : Params} {s t : State} (h : drivePins P s = .ok t) (ht : s.topology ≠ 1#4) :
    t.waits = s.waits := by
  have htable (row : Pins) (n : Nat) : (driveTable P row n s).waits = s.waits := by rw [driveTable, foldl_pinWrite]
  have hstrobe : (drive0 s).waits = s.waits := by rw [drive0]; split <;> rfl
  simp only [drivePins, ht, if_false] at h
  split_ifs at h <;> cases h
  · exact hstrobe
  all_goals exact htable _ _

/-- A step waits with topology 1 only. -/
theorem runSpeedBody_waits {P : Params} {s u : State} (h : runSpeedBody P s = .ok (true, u)) (ht : s.topology ≠ 1#4) :
    u.waits = s.waits := by
  unfold runSpeedBody commitStep at h
  split at h
  · cases hd : drivePins P (setCurPos (steppedPos (takeSample s)) (takeSample s)) with
    | error e => rw [hd] at h; cases h
    | ok t =>
      rw [hd] at h
      cases h
      have hwaits := drivePins_waits hd ht
      exact hwaits
  · cases h

/-- What a due step leaves: one sample is taken, the position and the time are written, and the pins are driven. -/
theorem runSpeedBody_stepped {P : Params} {s u : State} (h : runSpeedBody P s = .ok (true, u)) :
    ∃ (v : Pins) (w : Nat) (l : List Output),
      u = { s with curPos := steppedPos s, lastStepTime := clockNow s, pin := v, clockIn := s.clockIn.tail,
                   samples := s.samples + 1, waits := w, log := s.log ++ l } ∧ (w ≠ s.waits → s.topology = 1#4) := by
  rcases runSpeedBody_eq_ok h with ⟨⟨⟩, -⟩ | ⟨-, -, v, w, l, rfl⟩
  refine ⟨v, w, .sample (clockNow s) :: l, ?_, fun hw => ?_⟩
  · have hpos : steppedPos (takeSample s) = steppedPos s := rfl
    rw [hpos]
    simp [takeSample, emit]
  · by_contra ht
    exact hw (runSpeedBody_waits h ht)

theorem steppedPos_ne {s : State} (h : steppedPos s ≠ s.curPos) :
    (flt plusZero s.speed = true ∧ steppedPos s = s.curPos + 1#32) ∨
      (flt s.speed plusZero = true ∧ steppedPos s = s.curPos - 1#32) := by
  unfold steppedPos at h ⊢
  split_ifs at h ⊢ with hf hb
  · exact .inl ⟨hf, rfl⟩
  · exact .inr ⟨hb, rfl⟩
  · exact absurd rfl h

/-- Settles O54: by what each command can leave; a step's part is `runSpeedBody_stepped`. -/
theorem onlyTheseCommandsWrite : Obligations.OnlyTheseCommandsWrite := by
  intro i s t h
  cases performed_of_exec h with
  | readBack hi v => simp
  | moveTo p => simp
  | move r => simp
  | setCurrentPosition p => simp
  | setMaxSpeed hv => simp
  | refuseMaxSpeed hv => simp
  | setAcceleration ha => simp
  | refuseAcceleration ha => simp
  | setSpeed hv => simp
  | refuseSpeed hv => simp
  | setMinPulseWidth w => simp
  | atTarget hi _ => simp
  | notDue hi _ b => simp [hi]
  | stepped hi hu =>
    have hi' : StepsOnce i := .inr hi
    obtain ⟨v, w, l, rfl, hw⟩ := runSpeedBody_stepped hu
    simpa [hi'] using ⟨fun h => .inr (steppedPos_ne h), hw⟩
  | ran hu =>
    have hi : StepsOnce .run := .inl rfl
    obtain ⟨v, w, l, rfl, hw⟩ := runSpeedBody_stepped hu
    simpa [hi] using ⟨steppedPos_ne, hw⟩
  | runToPosition => simp
  | runToNewPosition p => simp

end Sys2Proof.Machine

/-! Proofs: the invariant holds after every reset, and every step keeps it (spec/10_state.md R48, R42;
spec/60_exceptions.md R271, R273, R276). Its motion part is kept by the speed write path, its record of topology,
sequencer and fault by fault entry and by the sequencer; everything else leaves what it reads. -/

namespace Sys2Proof.Machine

open Sys2Proof.Config Sys2Proof.Claim

/-! ### What the invariant reads -/

/-- The registers that the invariant's rules of the motion read. -/
def motionFields (s : State) : F32 × F32 × F32 × U32 := (s.maxSpeed, s.accel, s.speed, s.stepInterval)

/-- The registers that the invariant's record of topology, sequencer and fault reads. -/
def recordFields (s : State) : BitVec 32 × Pins × BitVec 32 × Frame × Seq :=
  (s.config, s.oe, s.status, s.faultFrame, s.seq)

theorem recordFields_applySpeed (P : Params) (v : F32) (s : State) :
    recordFields (applySpeed P v s) = recordFields s := by
  simp [recordFields]

theorem recordFields_computeNewSpeed (P : Params) (s : State) :
    recordFields (computeNewSpeed P s) = recordFields s :=
  recordFields_applySpeed P _ s

/-- Legal motion registers with the same record keep the invariant. -/
theorem inv_of_recordFields {s t : State} (hs : Inv s) (hrec : recordFields t = recordFields s)
    (hmotion : MotionLegal t) : Inv t := by
  obtain ⟨-, -, hconfig, hoe, hstatus⟩ := hs
  simp only [recordFields, Prod.mk.injEq] at hrec
  obtain ⟨h1, h2, h3, h4, h5⟩ := hrec
  obtain ⟨hlegal, hint⟩ := hmotion
  have htop : t.topology = s.topology := congrArg topologyOf h1
  exact ⟨hlegal, hint, by rwa [h1], by rwa [h2, htop], by rwa [h3, h4, h5, htop]⟩

theorem motionLegal_congr {s t : State} (hs : MotionLegal s) (h : motionFields t = motionFields s) :
    MotionLegal t := by
  simp only [motionFields, Prod.mk.injEq] at h
  obtain ⟨h1, h2, h3, h4⟩ := h
  obtain ⟨⟨hm, h0, ha, hpos, habove, hbelow⟩, hint⟩ := hs
  exact ⟨⟨by rwa [h1], by rwa [h1], by rwa [h2], by rwa [h2], by rwa [h1, h3], by rwa [h1, h3]⟩, by rwa [h3, h4]⟩

theorem motionLegal_of_inv {s : State} (hs : Inv s) : MotionLegal s := ⟨hs.legal, hs.interval⟩

theorem inv_congr {s t : State} (hs : Inv s) (hm : motionFields t = motionFields s)
    (hr : recordFields t = recordFields s) : Inv t :=
  inv_of_recordFields hs hr (motionLegal_congr (motionLegal_of_inv hs) hm)

/-! ### After reset -/

theorem motionLegal_reset : MotionLegal State.reset :=
  ⟨⟨by decide, by decide, by decide, by decide, by decide, by decide⟩, by decide⟩

theorem motionLegal_resetCore (strap : BitVec 4) (s : State) : MotionLegal (resetCore strap s) :=
  motionLegal_congr motionLegal_reset (by rw [resetCore_eq]; rfl)

theorem topologyOf_setWidth (strap : BitVec 4) : topologyOf (strap.setWidth 32) = strap := by
  revert strap
  decide

theorem inv_resetCore (strap : BitVec 4) (s : State) : Inv (resetCore strap s) := by
  have hconfig : (strap.setWidth 32).extractLsb' 4 28 = 0#28 := by
    revert strap
    decide
  have htop : (setStatus (if legalTopology strap then 0x00000000#32 else 0x00010102#32)
      (resetRegisters strap s)).topology = strap := topologyOf_setWidth strap
  obtain ⟨hlegal, hint⟩ := motionLegal_resetCore strap s
  rw [resetCore_eq] at hlegal hint ⊢
  refine ⟨hlegal, hint, hconfig, congrArg usedPins htop.symm, ?_⟩
  rw [htop]
  cases hl : legalTopology strap with
  | true => exact ⟨none, rfl, by simp, by simp, rfl⟩
  | false => exact ⟨some .invalidTopology, rfl, fun _ => rfl, by simp, rfl⟩

/-- Settles O14: the reset state is what a reset leaves. -/
theorem resetEstablishesTheInvariant : Obligations.ResetEstablishesTheInvariant :=
  ⟨reset_eq_resetCore ▸ inv_resetCore resetStrap _, inv_resetCore⟩

/-! ### Recomputing the speed -/

theorem inv_recompute_of_writable {s u : State} (hs : Inv s) (hr : recordFields u = recordFields s)
    (hu : SpeedWritable u) : Inv (computeNewSpeed params u) :=
  inv_of_recordFields hs ((recordFields_computeNewSpeed params u).trans hr) (motionLegal_computeNewSpeed hu)

/-- A recomputation after other registers than the invariant's were written. -/
theorem inv_recompute {s u : State} (hs : Inv s) (hm : motionFields u = motionFields s)
    (hr : recordFields u = recordFields s) : Inv (computeNewSpeed params u) :=
  inv_recompute_of_writable hs hr (speedWritable_of_motionLegal (motionLegal_congr (motionLegal_of_inv hs) hm))

theorem inv_setMaxSpeed {s : State} (hs : Inv s) {v : F32} (hv : maxSpeedRefused v = false) :
    Inv (computeNewSpeed params (setMaxSpeed v s)) := by
  obtain ⟨hfin, hnonneg⟩ : isFinite v = true ∧ fle plusZero v = true := by simpa [maxSpeedRefused, isFinite_eq] using hv
  obtain ⟨-, -, ha, hpos, hspeed, hint⟩ := speedWritable_of_motionLegal (motionLegal_of_inv hs)
  exact inv_recompute_of_writable hs rfl ⟨hfin, hnonneg, ha, hpos, hspeed, hint⟩

theorem inv_setAccel {s : State} (hs : Inv s) {a : F32} (ha : accelerationRefused a = false) :
    Inv (computeNewSpeed params (setAccel a s)) := by
  obtain ⟨hfin, hpos⟩ : isFinite a = true ∧ flt plusZero a = true := by
    simpa [accelerationRefused, isFinite_eq] using ha
  obtain ⟨hm, h0, -, -, hspeed, hint⟩ := speedWritable_of_motionLegal (motionLegal_of_inv hs)
  exact inv_recompute_of_writable hs rfl ⟨hm, h0, hfin, hpos, hspeed, hint⟩

theorem inv_applySpeed {s : State} (hs : Inv s) {v : F32} (hv : speedRefused v = false) :
    Inv (applySpeed params v s) :=
  inv_of_recordFields hs (recordFields_applySpeed params v s)
    (motionLegal_applySpeed (speedWritable_of_motionLegal (motionLegal_of_inv hs)) hv)

theorem inv_respond {s : State} {v : U32} (hs : Inv s) : Inv (respond v s) := inv_congr hs rfl rfl

/-! ### The sequencer and fault entry -/

theorem faultedBit_statusValue (b : Bool) (c : Option Cause) : faultedBit (statusValue b c) = c.isSome := by
  cases c with
  | none => cases b <;> decide
  | some c => cases b <;> cases c <;> decide

/-- What the invariant says of the record of an unfaulted core. -/
theorem record_of_unfaulted {s : State} (hs : Inv s) (hf : s.faulted = false) :
    s.status = statusValue (decide (s.seq = .busyRtp)) none ∧ legalTopology s.topology ≠ false ∧
      s.faultFrame = 0#64 := by
  obtain ⟨c, hstatus, -, htop, hframe⟩ := hs.status
  rw [State.faulted, hstatus, faultedBit_statusValue, Option.isSome_eq_false_iff, Option.isNone_iff_eq_none] at hf
  subst hf
  exact ⟨hstatus, fun h => (by cases htop.mpr h), hframe⟩

theorem unfaulted_of_busy {s : State} (hs : Inv s) (hq : s.seq = .busyRtp) : s.faulted = false := by
  obtain ⟨c, hstatus, hidle, -, -⟩ := hs.status
  rw [State.faulted, hstatus, faultedBit_statusValue]
  cases c with
  | none => rfl
  | some c => exact nomatch hq.symm.trans (hidle nofun)

/-- An unfaulted core may change the sequencer, with `STATUS` showing it. -/
theorem inv_setSeq {s : State} (hs : Inv s) (hf : s.faulted = false) (q : Seq) :
    Inv (setStatus (statusValue (decide (q = .busyRtp)) none) (setSeq q s)) := by
  obtain ⟨-, htop, hframe⟩ := record_of_unfaulted hs hf
  obtain ⟨hlegal, hint⟩ : MotionLegal (setStatus (statusValue (decide (q = .busyRtp)) none) (setSeq q s)) :=
    motionLegal_congr (motionLegal_of_inv hs) rfl
  exact ⟨hlegal, hint, hs.configReserved, hs.enables, none, rfl, nofun, iff_of_false nofun htop, hframe⟩

theorem withBusy_statusValue (b b' : Bool) : withBusy b (statusValue b' none) = statusValue b none := by
  cases b <;> cases b' <;> decide

theorem inv_enterBusy {s : State} (hs : Inv s) (hf : s.faulted = false) : Inv (enterBusy s) := by
  obtain ⟨hstatus, -, -⟩ := record_of_unfaulted hs hf
  rw [enterBusy, hstatus, withBusy_statusValue]
  exact inv_setSeq hs hf .busyRtp

theorem inv_leaveBusy {s : State} (hs : Inv s) (hf : s.faulted = false) : Inv (leaveBusy s) := by
  obtain ⟨hstatus, -, -⟩ := record_of_unfaulted hs hf
  rw [leaveBusy, hstatus, withBusy_statusValue]
  exact inv_setSeq hs hf .idle

theorem faultStatus_zero (c : Cause) : faultStatus c (statusValue false none) = statusValue false (some c) := by
  cases c <;> decide

/-- Fault entry of an idle unfaulted core on a frame that faults with the cause. -/
theorem inv_raiseFault {s : State} {c : Cause} {f : Frame} (hs : Inv s) (hf : s.faulted = false) (hq : s.seq = .idle)
    (hc : c ≠ .invalidTopology) (hfit : frameFits f (some c)) : Inv (raiseFault c f s) := by
  obtain ⟨hstatus, htop, -⟩ := record_of_unfaulted hs hf
  obtain ⟨hlegal, hint⟩ : MotionLegal (raiseFault c f s) := motionLegal_congr (motionLegal_of_inv hs) rfl
  refine ⟨hlegal, hint, hs.configReserved, hs.enables, some c, ?_, fun _ => hq, ?_, ?_⟩
  · have hidle : decide (s.seq = .busyRtp) = false := by rw [hq]; rfl
    rw [hidle] at hstatus
    rw [raiseFault_seq, hidle, raiseFault_status, hstatus, faultStatus_zero]
  · exact iff_of_false (fun h => hc (Option.some.inj h)) htop
  · simpa [hf] using hfit

/-! ### Commands -/

/-- A frame that passes the decoder's tests decodes to the command its opcode and its operand name. -/
theorem decode_encode_of_passes {i : Instr} (h : Laws.PassesTheDecoder.Statement i) :
    decode (encode i) = .ok (i.op.withOperand i.operand) := by
  obtain ⟨hop, hrsvd, hoperand, hnone, hu16⟩ := h
  rw [hoperand] at hnone hu16
  simp only [decode, hop, hrsvd, hoperand, ne_eq, not_true_eq_false, if_false]
  rw [if_neg (fun ⟨ht, h0⟩ => h0 (hnone ht)), if_neg (fun ⟨ht, h0⟩ => h0 (hu16 ht))]

theorem inv_runSpeedBody {s u : State} {b : Bool} (hs : Inv s) (h : runSpeedBody params s = .ok (b, u)) : Inv u := by
  rcases runSpeedBody_eq_ok h with ⟨-, -, rfl⟩ | ⟨-, -, v, w, l, rfl⟩ <;> exact inv_congr hs rfl rfl

/-- Every command that dispatch performs keeps the invariant: it finds the core idle, and unfaulted unless it is a
read-back command. -/
theorem inv_exec {i : Instr} {s t : State} (hs : Inv s) (hq : s.seq = .idle)
    (hf : s.faulted = true → isReadBack i = true) (h : exec i s = .next t) : Inv t := by
  have hunfaulted (hi : isReadBack i = false) : s.faulted = false := by
    cases hfs : s.faulted with
    | false => rfl
    | true => exact nomatch hi.symm.trans (hf hfs)
  cases performed_of_exec h with
  | readBack _ v => exact inv_respond hs
  | moveTo p => exact inv_respond (inv_recompute hs rfl rfl)
  | move r => exact inv_respond (inv_recompute hs rfl rfl)
  | setCurrentPosition p => exact inv_respond (inv_recompute hs rfl rfl)
  | setMaxSpeed hv => exact inv_respond (inv_setMaxSpeed hs hv)
  | @refuseMaxSpeed v hv =>
    exact inv_raiseFault hs (hunfaulted rfl) hq nofun
      ⟨v, decode_encode_of_passes (Laws.PassesTheDecoder.setMaxSpeed v), hv⟩
  | setAcceleration ha => exact inv_respond (inv_setAccel hs ha)
  | @refuseAcceleration a ha =>
    exact inv_raiseFault hs (hunfaulted rfl) hq nofun
      ⟨a, decode_encode_of_passes (Laws.PassesTheDecoder.setAcceleration a), ha⟩
  | setSpeed hv => exact inv_respond (inv_applySpeed hs hv)
  | @refuseSpeed v hv =>
    exact inv_raiseFault hs (hunfaulted rfl) hq nofun
      ⟨v, decode_encode_of_passes (Laws.PassesTheDecoder.setSpeed v), hv⟩
  | setMinPulseWidth w => exact inv_congr hs rfl rfl
  | atTarget _ _ => exact inv_respond hs
  | notDue _ _ b => exact inv_congr hs rfl rfl
  | stepped _ hu => exact inv_respond (inv_runSpeedBody hs hu)
  | ran hu => exact inv_respond (inv_recompute (inv_runSpeedBody hs hu) rfl rfl)
  | runToPosition => exact inv_enterBusy hs (hunfaulted rfl)
  | runToNewPosition p =>
    have hrecompute : Inv (computeNewSpeed params (setTgtPos p s)) := inv_recompute hs rfl rfl
    refine inv_enterBusy hrecompute ?_
    rw [State.faulted, computeNewSpeed_status]
    exact hunfaulted rfl

/-! ### Steps -/

theorem inv_rtpIterate {s t : State} (hs : Inv s) (hq : s.seq = .busyRtp) (h : rtpIterate params s = .next t) :
    Inv t := by
  rcases rtpIterate_cases params s with ⟨-, e⟩ | ⟨-, -, e⟩ | ⟨-, -, -, u, hu, -, e⟩ | ⟨-, -, -, e⟩ <;> rw [h] at e <;>
    cases e
  · exact inv_respond (inv_leaveBusy hs (unfaulted_of_busy hs hq))
  · exact inv_congr hs rfl rfl
  · exact inv_recompute (inv_runSpeedBody hs hu) rfl rfl

theorem inv_coreStep {s t : State} (hs : Inv s) (h : coreStepBy params s = .next t) : Inv t := by
  rcases coreStepBy_cases params s with ⟨-, e⟩ | ⟨hq, e⟩ <;> rw [h] at e
  · cases e
    exact hs
  · exact inv_rtpIterate hs hq e.symm

theorem inv_dispatch {f : Frame} {s t : State} (hs : Inv s) (hq : s.seq = .idle) (h : dispatch f s = .next t) :
    Inv t := by
  rcases dispatch_cases f s with ⟨-, -, e⟩ | ⟨hf, hillegal, e⟩ | ⟨i, -, hf, e⟩ <;> rw [h] at e
  · cases e
    exact inv_respond hs
  · cases e
    exact inv_raiseFault hs hf hq nofun hillegal
  · exact inv_exec hs hq hf e.symm

/-- Settles O15: a reset establishes the invariant; the core's work keeps it, in a dispatched command as in an
iteration of a blocking one. -/
theorem everyStepKeepsTheInvariant : Obligations.EveryStepKeepsTheInvariant := by
  intro s t hs h
  rcases step_eq_next h with ⟨strap, u, -, rfl⟩ | ⟨-, hwork⟩
  · exact inv_resetCore strap u
  · rcases workStepBy_cases params exec s with
      ⟨-, e⟩ | ⟨rest, -, e⟩ | ⟨f, now, rest, -, hq, e⟩ | ⟨f, now, rest, -, hq, e⟩ | ⟨-, e⟩ <;> rw [hwork] at e
    · exact inv_coreStep hs e.symm
    · exact inv_coreStep (s := { s with host := rest }) (inv_congr hs rfl rfl) e.symm
    · exact inv_dispatch (s := { s with host := rest, clockIn := now }) (inv_congr hs rfl rfl) hq e.symm
    · exact inv_rtpIterate hs hq e.symm
    · cases e
      exact hs

end Sys2Proof.Machine

/-! Proofs: nothing in the core reads the pin latches (spec/10_state.md R41). With other latches, written here by the
model's own `setPin`, every operation does the same and leaves other latches at most. -/

namespace Sys2Proof.Machine

open Sys2Proof.Config Sys2Proof.Claim

/-! ### The parts of a step -/

@[simp] theorem applySpeed_setPin (P : Params) (x : F32) (v : Pins) (s : State) :
    applySpeed P x (setPin v s) = setPin v (applySpeed P x s) := by
  have hsame : speedUnchanged x (setPin v s) = speedUnchanged x s := rfl
  rw [applySpeed, applySpeed, hsame]
  split <;> rfl

@[simp] theorem computeNewSpeed_setPin (P : Params) (v : Pins) (s : State) :
    computeNewSpeed P (setPin v s) = setPin v (computeNewSpeed P s) :=
  applySpeed_setPin P (desiredSpeed P s) v s

theorem drive0_setPin (v : Pins) (s : State) : drive0 (setPin v s) = setPin v (drive0 s) := by
  unfold drive0
  have h : (setPin v s).speed = s.speed := rfl
  rw [h]
  split <;> rfl

theorem drive1_setPin (v : Pins) (s : State) : ∃ w, drive1 (setPin v s) = setPin w (drive1 s) :=
  ⟨(drive1 (setPin v s)).pin, rfl⟩

theorem driveTable_setPin (P : Params) (row v : Pins) (n : Nat) (s : State) :
    ∃ w, driveTable P row n (setPin v s) = setPin w (driveTable P row n s) := by
  unfold driveTable
  rw [foldl_pinWrite, foldl_pinWrite]
  exact ⟨_, rfl⟩

theorem drivePins_setPin (P : Params) (v : Pins) (s : State) :
    ∃ w, drivePins P (setPin v s) = (drivePins P s).map (setPin w) := by
  have htop : (setPin v s).topology = s.topology := rfl
  have hphase : (setPin v s).phase = s.phase := rfl
  obtain ⟨w1, h1⟩ := drive1_setPin v s
  obtain ⟨w2, h2⟩ := driveTable_setPin P (rowOf4 P.pat2 s.phase) v 2 s
  obtain ⟨w4, h4⟩ := driveTable_setPin P (rowOf4 P.pat4 s.phase) v 4 s
  obtain ⟨w8, h8⟩ := driveTable_setPin P (rowOf8 P.pat8 s.phase) v 4 s
  unfold drivePins
  rw [htop, hphase]
  split_ifs
  · exact ⟨v, by rw [drive0_setPin]; rfl⟩
  · exact ⟨w1, by rw [h1]; rfl⟩
  · exact ⟨w2, by rw [h2]; rfl⟩
  · exact ⟨w4, by rw [h4]; rfl⟩
  · exact ⟨w8, by rw [h8]; rfl⟩
  · exact ⟨v, rfl⟩

theorem commitStep_setPin (P : Params) (now : U32) (v : Pins) (s : State) :
    ∃ w, commitStep P now (setPin v s) = (commitStep P now s).map (setPin w) := by
  obtain ⟨w, hw⟩ := drivePins_setPin P v (setCurPos (steppedPos s) s)
  have hcommit : commitStep P now (setPin v s) =
      (drivePins P (setPin v (setCurPos (steppedPos s) s))).map (setLastStepTime now) := rfl
  refine ⟨w, ?_⟩
  rw [hcommit, hw, commitStep]
  cases drivePins P (setCurPos (steppedPos s) s) <;> rfl

theorem runSpeedBody_setPin (P : Params) (v : Pins) (s : State) :
    ∃ w, runSpeedBody P (setPin v s) = (runSpeedBody P s).map (Prod.map id (setPin w)) := by
  have hbody : runSpeedBody P (setPin v s) =
      if dueNow s then (commitStep P (clockNow s) (setPin v (takeSample s))).map (fun t => (true, t))
      else .ok (false, setPin v (takeSample s)) := rfl
  obtain ⟨w, hw⟩ := commitStep_setPin P (clockNow s) v (takeSample s)
  rw [hbody, hw, runSpeedBody]
  split
  · refine ⟨w, ?_⟩
    cases commitStep P (clockNow s) (takeSample s) <;> rfl
  · exact ⟨v, rfl⟩

theorem runBody_setPin (P : Params) (v : Pins) (s : State) :
    ∃ w, runBody P (setPin v s) = (runBody P s).map (Prod.map id (setPin w)) := by
  obtain ⟨w, hw⟩ := runSpeedBody_setPin P v s
  simp only [runBody, setPin_curPos, setPin_tgtPos, hw]
  split
  · exact ⟨v, rfl⟩
  · refine ⟨w, ?_⟩
    rcases runSpeedBody P s with e | ⟨_ | _, u⟩ <;> simp [Except.map]

theorem runSpeedToPositionBody_setPin (P : Params) (v : Pins) (s : State) :
    ∃ w, runSpeedToPositionBody P (setPin v s) = (runSpeedToPositionBody P s).map (Prod.map id (setPin w)) := by
  have hbody : runSpeedToPositionBody P (setPin v s) =
      if s.curPos = s.tgtPos then .ok (false, setPin v s) else runSpeedBody P (setPin v s) := rfl
  rw [hbody, runSpeedToPositionBody]
  by_cases h : s.curPos = s.tgtPos
  · rw [if_pos h, if_pos h]
    exact ⟨v, rfl⟩
  · rw [if_neg h, if_neg h]
    exact runSpeedBody_setPin P v s

/-! ### Outcomes -/

/-- The same outcome with other latches. -/
def outcomeWithPin (v : Pins) : Host.Outcome State Fault Refusal → Host.Outcome State Fault Refusal
  | .next t => .next (setPin v t)
  | .fault e => .fault e
  | .refused r => .refused r

theorem respondBool_map_setPin (w : Pins) (r : Except Fault (Bool × State)) :
    respondBool (r.map (Prod.map id (setPin w))) = outcomeWithPin w (respondBool r) := by
  cases r <;> rfl

theorem answer_recompute_setPin (v : Pins) (s : State) :
    (.next (respond 0#32 (computeNewSpeed params (setPin v s))) : Host.Outcome State Fault Refusal) =
      outcomeWithPin v (.next (respond 0#32 (computeNewSpeed params s))) := by
  rw [computeNewSpeed_setPin]
  rfl

theorem exec_setPin (i : Instr) (v : Pins) (s : State) :
    ∃ w, exec i (setPin v s) = outcomeWithPin w (exec i s) := by
  cases i with
  | moveTo p => exact ⟨v, answer_recompute_setPin v (setTgtPos p s)⟩
  | move r => exact ⟨v, answer_recompute_setPin v (setTgtPos (s.curPos + r) s)⟩
  | setCurrentPosition p => exact ⟨v, answer_recompute_setPin v (setTgtPos p (setCurPos p s))⟩
  | setMaxSpeed x =>
    refine ⟨v, ?_⟩
    simp only [exec, execSetMaxSpeed, setMaxSpeedWith]
    split
    · rfl
    · exact answer_recompute_setPin v (setMaxSpeed x s)
  | setAcceleration a =>
    refine ⟨v, ?_⟩
    simp only [exec, execSetAcceleration, setAccelerationWith]
    split
    · rfl
    · exact answer_recompute_setPin v (setAccel a s)
  | setSpeed x =>
    refine ⟨v, ?_⟩
    simp only [exec, execSetSpeed, setSpeedWith, applySpeed_setPin]
    split <;> rfl
  | run =>
    obtain ⟨w, hw⟩ := runBody_setPin params v s
    exact ⟨w, (congrArg respondBool hw).trans (respondBool_map_setPin w _)⟩
  | runSpeed =>
    obtain ⟨w, hw⟩ := runSpeedBody_setPin params v s
    exact ⟨w, (congrArg respondBool hw).trans (respondBool_map_setPin w _)⟩
  | runSpeedToPosition =>
    obtain ⟨w, hw⟩ := runSpeedToPositionBody_setPin params v s
    exact ⟨w, (congrArg respondBool hw).trans (respondBool_map_setPin w _)⟩
  | runToNewPosition p =>
    have hspeed := computeNewSpeed_setPin params v (setTgtPos p s)
    exact ⟨v, congrArg (fun u => Host.Outcome.next (enterBusy u)) hspeed⟩
  | _ => exact ⟨v, rfl⟩

theorem rtpIterate_setPin (P : Params) (v : Pins) (s : State) :
    ∃ w, rtpIterate P (setPin v s) = outcomeWithPin w (rtpIterate P s) := by
  obtain ⟨w, hw⟩ := runBody_setPin P v s
  refine ⟨w, ?_⟩
  rw [rtpIterate, rtpIterate, hw]
  rcases runBody P s with e | ⟨_ | _, u⟩ <;> rfl

theorem coreStepBy_setPin (P : Params) (v : Pins) (s : State) :
    ∃ w, coreStepBy P (setPin v s) = outcomeWithPin w (coreStepBy P s) := by
  simp only [coreStepBy, setPin_seq]
  cases s.seq with
  | idle => exact ⟨v, rfl⟩
  | busyRtp => exact rtpIterate_setPin P v s

theorem dispatch_setPin (f : Frame) (v : Pins) (s : State) :
    ∃ w, dispatch f (setPin v s) = outcomeWithPin w (dispatch f s) := by
  have hfaulted : (setPin v s).faulted = s.faulted := rfl
  simp only [dispatch, dispatchBy, hfaulted]
  cases decode f with
  | error e =>
    refine ⟨v, ?_⟩
    dsimp only
    split <;> rfl
  | ok i =>
    dsimp only
    split
    · exact ⟨v, rfl⟩
    · exact exec_setPin i v s

theorem workStep_setPin (v : Pins) (s : State) :
    ∃ w, workStepBy params exec (setPin v s) = outcomeWithPin w (workStepBy params exec s) := by
  simp only [workStepBy, setPin_host, setPin_seq]
  match s.host with
  | [] => exact coreStepBy_setPin params v s
  | .pause :: _ => exact coreStepBy_setPin params v (dropMove s)
  | .frame f now :: _ =>
    cases s.seq with
    | idle => exact dispatch_setPin f v (acceptFrame now s)
    | busyRtp => exact rtpIterate_setPin params v s
  | .reset _ :: _ => exact ⟨v, rfl⟩
  | .resetDuring _ _ :: _ => exact ⟨v, rfl⟩

/-- Reset draws new latches, so those of the state before it do not matter at all. -/
theorem resetCore_setPin (strap : BitVec 4) (v : Pins) (s : State) :
    resetCore strap (setPin v s) = resetCore strap s := by
  rw [resetCore_eq, resetCore_eq]
  rfl

theorem resetDuringWork_setPin (strap : BitVec 4) (n : Nat) (v w : Pins) (s done : State) :
    resetDuringWork strap n (setPin v s) (setPin w done) = resetDuringWork strap n s done :=
  resetCore_setPin strap w { done with log := s.log ++ abandonedPart n (done.log.drop s.log.length) }

theorem abandon_setPin (strap : BitVec 4) (n : Nat) (v w : Pins) (s : State)
    (work : Host.Outcome State Fault Refusal) :
    abandon strap n (setPin v s) (outcomeWithPin w work) = abandon strap n s work := by
  cases work with
  | next t => exact congrArg Host.Outcome.next (resetDuringWork_setPin strap n v w s t)
  | fault e => rfl
  | refused r => rfl

/-- An outcome is itself with its own latches. -/
theorem eq_outcomeWithPin_self (o : Host.Outcome State Fault Refusal) : ∃ w, o = outcomeWithPin w o := by
  cases o with
  | next t => exact ⟨t.pin, rfl⟩
  | fault e => exact ⟨default, rfl⟩
  | refused r => exact ⟨default, rfl⟩

theorem step_setPin (v : Pins) (s : State) : ∃ w, step (setPin v s) = outcomeWithPin w (step s) := by
  simp only [step, portStep, portStepBy, setPin_host]
  match s.host with
  | .reset strap :: _ =>
    have hreset : resetCore strap (dropMove (setPin v s)) = resetCore strap (dropMove s) :=
      resetCore_setPin strap v (dropMove s)
    simp only [hreset]
    exact eq_outcomeWithPin_self _
  | .resetDuring strap n :: _ =>
    obtain ⟨w, hw⟩ := workStep_setPin v (dropMove s)
    have hdrop : dropMove (setPin v s) = setPin v (dropMove s) := rfl
    simp only [hdrop, hw, abandon_setPin]
    exact eq_outcomeWithPin_self _
  | [] => exact workStep_setPin v s
  | .pause :: _ => exact workStep_setPin v s
  | .frame _ _ :: _ => exact workStep_setPin v s

/-- Settles O55: by the outcomes with other latches. -/
theorem pinLatchesAreNeverRead : Obligations.PinLatchesAreNeverRead := by
  intro s v
  obtain ⟨w, hw⟩ := step_setPin v s
  refine ⟨fun t h => ⟨w, ?_⟩, fun e h => ?_⟩ <;> exact hw.trans (congrArg (outcomeWithPin w) h)

end Sys2Proof.Machine

/-! Proofs: dispatch at an open port, the illegal frames, and the quiescence of a faulted core (spec/20_memory.md R72;
spec/30_encoding.md R97, R99, R100; spec/60_exceptions.md R273, R274). -/

namespace Sys2Proof.Machine

open Sys2Proof.Config Sys2Proof.Claim

/-! ### Dispatch -/

/-- An open port dispatches the host's frame (R72). -/
theorem step_frame_of_idle {s : State} {f : Frame} {now : List U32} {rest : List HostMove}
    (hh : s.host = .frame f now :: rest) (hq : s.seq = .idle) :
    step s = dispatch f { s with host := rest, clockIn := now } := by
  simp [step, portStep, portStepBy, workStepBy, dispatch, acceptFrame, hh, hq]

theorem toNat_opcodeOf (f : Frame) : (opcodeOf f).toNat = f.toNat % 256 := by simp [opcodeOf]

/-- The read-back commands are told by the opcode of their frame (R98). -/
theorem isReadBack_iff_of_decode {f : Frame} {i : Instr} (h : decode f = .ok i) :
    isReadBack i = true ↔ 0x20 ≤ f.toNat % 256 := by
  obtain ⟨o, ho, -, -, -, rfl⟩ := decode_eq_ok h
  have hmax : o.opcode.toNat ≤ 0x2C := by cases o <;> decide
  have hop : o.opcode.toNat = f.toNat % 256 :=
    (congrArg BitVec.toNat (opcode_of_ofOpcode ho)).trans (toNat_opcodeOf f)
  simp only [isReadBack, op_withOperand, Bool.and_eq_true, decide_eq_true_eq]
  omega

theorem dispatch_of_decode {f : Frame} {i : Instr} {s : State} (h : decode f = .ok i)
    (hf : s.faulted = false ∨ 0x20 ≤ f.toNat % 256) : dispatch f s = exec i s := by
  rw [← isReadBack_iff_of_decode h] at hf
  have hperform : ¬ (s.faulted && !isReadBack i) = true := by rcases hf with hf | hf <;> simp [hf]
  simp only [dispatch, dispatchBy, h, if_neg hperform]

/-- Settles O6: an open port dispatches the frame, and dispatch performs the command it decodes to. -/
theorem stepRunsTheDecodedCommand : Obligations.StepRunsTheDecodedCommand :=
  fun _ _ _ _ _ hh hq hd hf => (step_frame_of_idle hh hq).trans (dispatch_of_decode hd hf)

/-! ### The illegal frames -/

/-- What the decoder refuses, said by its tests (R97, R100). -/
theorem decode_eq_error_iff (f : Frame) :
    (∃ e, decode f = .error e) ↔ Op.ofOpcode (opcodeOf f) = none ∨ rsvdOf f ≠ 0#24 ∨
      ((Op.ofOpcode (opcodeOf f)).map Op.operandType = some .none ∧ operandOf f ≠ 0#32) ∨
      ((Op.ofOpcode (opcodeOf f)).map Op.operandType = some .u16 ∧ (operandOf f).extractLsb' 16 16 ≠ 0#16) := by
  unfold decode
  cases Op.ofOpcode (opcodeOf f) with
  | none => simp
  | some o => dsimp only; split_ifs <;> simp_all

theorem ofOpcode_eq_none_iff (c : BitVec 8) : Op.ofOpcode c = none ↔ Unassigned c.toNat := by
  revert c
  decide +kernel

theorem operandType_none_iff (c : BitVec 8) :
    (Op.ofOpcode c).map Op.operandType = some .none ↔ NoOperand c.toNat := by
  revert c
  decide +kernel

theorem operandType_u16_iff (c : BitVec 8) : (Op.ofOpcode c).map Op.operandType = some .u16 ↔ c.toNat = 0x07 := by
  revert c
  decide +kernel

theorem rsvdOf_ne_zero_iff (f : Frame) : rsvdOf f ≠ 0#24 ↔ f.toNat / 256 % 2 ^ 24 ≠ 0 := by
  simp [rsvdOf, ← BitVec.toNat_inj, Nat.shiftRight_eq_div_pow]

theorem operandOf_ne_zero_iff (f : Frame) : operandOf f ≠ 0#32 ↔ f.toNat / 2 ^ 32 ≠ 0 := by
  have h := f.isLt
  simp only [operandOf, ne_eq, ← BitVec.toNat_inj, BitVec.extractLsb'_toNat, BitVec.toNat_ofNat,
    Nat.shiftRight_eq_div_pow]
  omega

theorem operandHigh_ne_zero_iff (f : Frame) :
    (operandOf f).extractLsb' 16 16 ≠ 0#16 ↔ f.toNat / 2 ^ 48 ≠ 0 := by
  have h := f.isLt
  simp only [operandOf, ne_eq, ← BitVec.toNat_inj, BitVec.extractLsb'_toNat, BitVec.toNat_ofNat,
    Nat.shiftRight_eq_div_pow]
  omega

theorem decode_eq_error_iff_illegalFrame (f : Frame) : (∃ e, decode f = .error e) ↔ IllegalFrame f := by
  rw [decode_eq_error_iff, ofOpcode_eq_none_iff, operandType_none_iff, operandType_u16_iff, rsvdOf_ne_zero_iff,
    operandOf_ne_zero_iff, operandHigh_ne_zero_iff, toNat_opcodeOf]

/-! ### Fault entry -/

/-- The bits of `STATUS` after fault entry of an unfaulted core (R273). -/
theorem getLsbD_faultStatus (c : Cause) {st : BitVec 32} (hf : faultedBit st = false) (n : Nat) :
    (faultStatus c st).getLsbD n =
      if n = 1 ∨ n = 7 + causeCode c then true
      else if 16 ≤ n ∧ n < 20 then (causeCode c).testBit (n - 16) else st.getLsbD n := by
  have hcode : causeCode c < 2 ^ 4 := by cases c <;> decide
  rcases Nat.lt_or_ge n 32 with hn | hn
  · have hkept : ∀ n < 32, (0xFFF0FFFF#32).getLsbD n = !decide (16 ≤ n ∧ n < 20) := by decide
    have hflag : ∀ n < 32, (0x00000002#32).getLsbD n = decide (n = 1) := by decide
    have hfirst : (BitVec.ofNat 32 (causeCode c * 2 ^ 16)).getLsbD n =
        decide (16 ≤ n ∧ n < 20 ∧ (causeCode c).testBit (n - 16) = true) := by
      rw [BitVec.getLsbD_ofNat, Nat.testBit_mul_two_pow]
      rcases Nat.lt_or_ge n 20 with h20 | h20
      · simp [hn, h20]
      · have hhigh : (causeCode c).testBit (n - 16) = false :=
          Nat.testBit_lt_two_pow (hcode.trans_le (Nat.pow_le_pow_right (by decide) (by omega)))
        simp [hhigh]
    simp only [faultStatus, hf, Bool.false_eq_true, if_false, withFaulted, withCauseBit, withFirstCause,
      BitVec.getLsbD_or, BitVec.getLsbD_and, BitVec.getLsbD_twoPow, hkept n hn, hflag n hn, hfirst]
    grind
  · rw [BitVec.getLsbD_of_ge _ _ hn, BitVec.getLsbD_of_ge _ _ hn, if_neg (by omega), if_neg (by omega)]

/-- Fault entry of an unfaulted core, in the words of R273. -/
theorem faultEntered_raiseFault (c : Cause) (f : Frame) {s : State} (hf : s.faulted = false) :
    FaultEntered (causeCode c) s (raiseFault c f s) := by
  have hcode : causeCode c ≤ 5 := by cases c <;> decide
  refine ⟨rfl, ?_, ?_, fun n hn => ?_, fun n h1 hc h => ?_⟩ <;> rw [raiseFault_status, getLsbD_faultStatus c hf]
  · simp
  · simp
  · rw [if_neg (by omega), if_pos (by omega), Nat.add_sub_cancel_left]
  · rw [if_neg (by omega), if_neg (by omega)]

theorem dispatch_of_illegal {f : Frame} {s : State} (h : ∃ e, decode f = .error e) (hf : s.faulted = false) :
    dispatch f s = .next (raiseFault .illegalCommand f s) := by
  obtain ⟨e, he⟩ := h
  simp [dispatch, dispatchBy, he, hf]

/-- Settles O4: the decoder's tests read from the frame's number, and fault entry with the cause of code 5. -/
theorem illegalFramesRaiseCodeFive : Obligations.IllegalFramesRaiseCodeFive := by
  refine ⟨decode_eq_error_iff_illegalFrame, fun f now rest s hill hh hq hf => ?_, fun f hlo hhi => ?_⟩
  · have hstep := (step_frame_of_idle hh hq).trans
      (dispatch_of_illegal ((decode_eq_error_iff_illegalFrame f).mpr hill) hf)
    exact ⟨_, hstep, faultEntered_raiseFault .illegalCommand f hf, if_neg (by simpa [State.faulted] using hf)⟩
  · cases hd : decode f with
    | ok i => exact ⟨i, rfl⟩
    | error e =>
      have hill : IllegalFrame f := (decode_eq_error_iff_illegalFrame f).mp ⟨e, hd⟩
      simp only [IllegalFrame, Unassigned, NoOperand] at hill
      omega

/-! ### The faulted core -/

theorem dispatch_of_ignored {f : Frame} {s : State} (hf : s.faulted = true)
    (h : ∀ i, decode f = .ok i → isReadBack i = false) : dispatch f s = .next (respond 0#32 s) := by
  rcases dispatch_cases f s with ⟨-, -, e⟩ | ⟨hf', -, -⟩ | ⟨i, hi, hr, -⟩
  · exact e
  · exact nomatch hf.symm.trans hf'
  · exact nomatch (hr hf).symm.trans (h i hi)

/-- A read-back command responds and does nothing else. -/
theorem exec_readBack {i : Instr} {s t : State} (hi : isReadBack i = true) (h : exec i s = .next t) :
    ∃ v, t = respond v s := by
  cases performed_of_exec h with
  | readBack _ v => exact ⟨v, rfl⟩
  | atTarget hi' _ => rcases hi' with rfl | rfl <;> cases hi
  | notDue hi' _ _ => rcases hi' with rfl | rfl | rfl <;> cases hi
  | stepped hi' _ => rcases hi' with rfl | rfl <;> cases hi
  | _ => cases hi

/-- A faulted core that dispatches a frame responds and does nothing else (R274). -/
theorem dispatch_of_faulted {f : Frame} {s t : State} (hf : s.faulted = true) (h : dispatch f s = .next t) :
    ∃ v, t = respond v s := by
  rcases dispatch_cases f s with ⟨-, -, e⟩ | ⟨hf', -, -⟩ | ⟨i, -, hr, e⟩
  · rw [h] at e
    exact ⟨0#32, Host.Outcome.next.inj e⟩
  · exact nomatch hf.symm.trans hf'
  · exact exec_readBack (hr hf) (e.symm.trans h)

theorem coreStepBy_of_idle {P : Params} {s : State} (hq : s.seq = .idle) : coreStepBy P s = .next s := by
  rw [coreStepBy, hq]

/-- A step of a faulted idle core that is no reset adds a response to the log at most. -/
theorem step_of_faulted {s t : State} (hf : s.faulted = true) (hq : s.seq = .idle)
    (hno : ∀ strap, ¬ ResetNext strap s) (h : step s = .next t) :
    ∃ (rest : List HostMove) (now : List U32) (l : List Output),
      t = { s with host := rest, clockIn := now, log := s.log ++ l } ∧ eventsOf l = [] := by
  rcases step_eq_next h with ⟨strap, -, hr, -⟩ | ⟨-, hwork⟩
  · exact absurd hr (hno strap)
  rcases workStepBy_cases params exec s with
    ⟨-, e⟩ | ⟨rest, -, e⟩ | ⟨f, now, rest, -, -, e⟩ | ⟨f, now, rest, -, hq', -⟩ | ⟨-, e⟩
  · rw [hwork, coreStepBy_of_idle hq] at e
    cases e
    exact ⟨s.host, s.clockIn, [], by simp, rfl⟩
  · rw [hwork, coreStepBy_of_idle (s := { s with host := rest }) hq] at e
    cases e
    exact ⟨rest, s.clockIn, [], by simp, rfl⟩
  · obtain ⟨v, rfl⟩ := dispatch_of_faulted (s := { s with host := rest, clockIn := now }) hf (e.symm.trans hwork)
    exact ⟨rest, now, [.response v], rfl, rfl⟩
  · exact nomatch hq.symm.trans hq'
  · rw [hwork] at e
    cases e
    exact ⟨s.host, s.clockIn, [], by simp, rfl⟩

theorem unfaulted_of_resetValues {strap : BitVec 4} {t : State} (h : ResetValues strap t)
    (hl : legalTopology strap = true) : t.faulted = false := by
  obtain ⟨-, -, -, -, -, -, -, -, -, -, hstatus, -, -⟩ := h
  rw [if_pos ((legalTopology_iff strap).mp hl)] at hstatus
  rw [State.faulted, hstatus]
  decide

/-- Settles O9: a faulted core dispatches read-back frames only, and only a reset step leaves anything else than an
added response. -/
theorem faultedStateIsStickyAndQuiescent : Obligations.FaultedStateIsStickyAndQuiescent := by
  refine ⟨fun s f now rest hf hq hh hlow => ?_, fun s f now rest i hf hq hh hd hhigh => ?_,
    fun s t hf hq hno h => ?_, fun s t strap hr hl h => ?_, fun s hf ⟨_, hf'⟩ => nomatch hf.symm.trans hf'⟩
  · have hignored (i : Instr) (hi : decode f = .ok i) : isReadBack i = false := by
      rw [← Bool.not_eq_true, isReadBack_iff_of_decode hi]
      exact Nat.not_le.mpr (hlow i hi)
    exact (step_frame_of_idle hh hq).trans (dispatch_of_ignored hf hignored)
  · exact stepRunsTheDecodedCommand s f now rest i hh hq hd (.inr hhigh)
  · obtain ⟨rest, now, l, rfl, hl⟩ := step_of_faulted hf hq hno h
    refine ⟨rfl, ?_⟩
    have hevents : eventsOf (s.log ++ l) = eventsOf s.log ++ eventsOf l := List.filter_append ..
    rw [hevents, hl, List.append_nil]
  · obtain ⟨-, hvalues⟩ := resetLeavesTheseValues
    exact unfaulted_of_resetValues (hvalues s t strap hr h) hl

end Sys2Proof.Machine

/-! Proofs: while a blocking command runs, the core does not look at the host's moves (spec/20_memory.md R73): with
another list of moves every operation of an iteration does the same. -/

namespace Sys2Proof.Machine

open Sys2Proof.Config Sys2Proof.Claim

/-- The same state with another list of the host's moves. -/
def withHost (h : List HostMove) (s : State) : State := { s with host := h }

theorem computeNewSpeed_withHost (P : Params) (h : List HostMove) (s : State) :
    computeNewSpeed P (withHost h s) = withHost h (computeNewSpeed P s) := by
  have hdesired : desiredSpeed P (withHost h s) = desiredSpeed P s := rfl
  have hsame (v : F32) : speedUnchanged v (withHost h s) = speedUnchanged v s := rfl
  rw [computeNewSpeed, computeNewSpeed, hdesired, applySpeed, applySpeed, hsame]
  split <;> rfl

theorem drive0_withHost (h : List HostMove) (s : State) : drive0 (withHost h s) = withHost h (drive0 s) := by
  have hspeed : (withHost h s).speed = s.speed := rfl
  rw [drive0, drive0, hspeed]
  split <;> rfl

theorem driveTable_withHost (P : Params) (row : Pins) (n : Nat) (h : List HostMove) (s : State) :
    driveTable P row n (withHost h s) = withHost h (driveTable P row n s) := by
  rw [driveTable, driveTable, foldl_pinWrite, foldl_pinWrite]
  rfl

theorem drivePins_withHost (P : Params) (h : List HostMove) (s : State) :
    drivePins P (withHost h s) = (drivePins P s).map (withHost h) := by
  have htop : (withHost h s).topology = s.topology := rfl
  have hphase : (withHost h s).phase = s.phase := rfl
  simp only [drivePins, htop, hphase, drive0_withHost, driveTable_withHost]
  split_ifs <;> rfl

theorem commitStep_withHost (P : Params) (now : U32) (h : List HostMove) (s : State) :
    commitStep P now (withHost h s) = (commitStep P now s).map (withHost h) := by
  have hcommit : commitStep P now (withHost h s) =
      (drivePins P (withHost h (setCurPos (steppedPos s) s))).map (setLastStepTime now) := rfl
  rw [hcommit, drivePins_withHost, commitStep]
  cases drivePins P (setCurPos (steppedPos s) s) <;> rfl

theorem runSpeedBody_withHost (P : Params) (h : List HostMove) (s : State) :
    runSpeedBody P (withHost h s) = (runSpeedBody P s).map (Prod.map id (withHost h)) := by
  have hbody : runSpeedBody P (withHost h s) =
      if dueNow s then (commitStep P (clockNow s) (withHost h (takeSample s))).map (fun t => (true, t))
      else .ok (false, withHost h (takeSample s)) := rfl
  rw [hbody, commitStep_withHost, runSpeedBody]
  split
  · cases commitStep P (clockNow s) (takeSample s) <;> rfl
  · rfl

theorem runBody_withHost (P : Params) (h : List HostMove) (s : State) :
    runBody P (withHost h s) = (runBody P s).map (Prod.map id (withHost h)) := by
  have hcur : (withHost h s).curPos = s.curPos := rfl
  have htgt : (withHost h s).tgtPos = s.tgtPos := rfl
  rw [runBody, runBody, hcur, htgt, runSpeedBody_withHost]
  split
  · rfl
  · rcases runSpeedBody P s with e | ⟨_ | _, u⟩ <;> simp [Except.map, computeNewSpeed_withHost]

/-- An iteration does not look at the host's moves, and leaves them. -/
theorem rtpIterate_withHost_next {P : Params} {h : List HostMove} {s u : State} (hu : rtpIterate P s = .next u) :
    rtpIterate P (withHost h s) = .next (withHost h u) := by
  rw [rtpIterate, runBody_withHost]
  rw [rtpIterate] at hu
  rcases hbody : runBody P s with e | ⟨_ | _, v⟩ <;> rw [hbody] at hu <;> cases hu <;> rfl

theorem step_frame_of_busy {s : State} {f : Frame} {now : List U32} {rest : List HostMove}
    (hh : s.host = .frame f now :: rest) (hq : s.seq = .busyRtp) : step s = rtpIterate params s := by
  simp [step, portStep, portStepBy, workStepBy, hh, hq]

/-- Settles O8: both steps are the same iteration, with the list of moves as it was. -/
theorem closedPortKeepsTheFrame : Obligations.ClosedPortKeepsTheFrame := by
  intro s t f now rest hq hh
  have halone : step { s with host := [] } = rtpIterate params (withHost [] s) := by
    simp [step, portStep, portStepBy, workStepBy, coreStepBy, withHost, hq]
  rw [step_frame_of_busy hh hq, halone]
  constructor
  · intro h
    have hkept : t = withHost s.host t :=
      Host.Outcome.next.inj (h.symm.trans (rtpIterate_withHost_next (h := s.host) (s := s) h))
    have hhost : t.host = s.host := (congrArg State.host hkept :)
    exact ⟨withHost [] t, rtpIterate_withHost_next h, by rw [← hhost]; rfl⟩
  · rintro ⟨u, hu, rfl⟩
    exact rtpIterate_withHost_next (h := s.host) (s := withHost [] s) hu

end Sys2Proof.Machine

/-! Proofs: what a command adds to the log (spec/20_memory.md R74; spec/30_encoding.md R96), and the time the waits in
it take under the clock premise (spec/20_memory.md R77, R79; spec/42_pattern.md R182). -/

namespace Sys2Proof.Machine

open Sys2Proof.Config Sys2Proof.Claim

/-! ### Added entries that are no response -/

/-- Between the two states the log gains entries none of which is a response. -/
def AddsEvents (s t : State) : Prop := ∃ l, responsesOf l = [] ∧ t.log = s.log ++ l

theorem addsEvents_of_log_eq {s t : State} (h : t.log = s.log) : AddsEvents s t := ⟨[], rfl, by simp [h]⟩

theorem addsEvents_trans {s t u : State} (hst : AddsEvents s t) (htu : AddsEvents t u) : AddsEvents s u := by
  obtain ⟨l, hl, ht⟩ := hst
  obtain ⟨m, hm, hu⟩ := htu
  refine ⟨l ++ m, ?_, by rw [hu, ht, List.append_assoc]⟩
  rw [responsesOf, List.filterMap_append]
  exact List.append_eq_nil_iff.mpr ⟨hl, hm⟩

theorem takeSample_addsEvents (s : State) : AddsEvents s (takeSample s) := ⟨[.sample (clockNow s)], rfl, rfl⟩

theorem drive0_addsEvents (s : State) : AddsEvents s (drive0 s) := by
  unfold drive0
  split <;> exact ⟨_, rfl, rfl⟩

/-- The pulse of topology 1 (R182), whose wait held the core for `us` microseconds (R79). -/
def pulse (s : State) (us : Nat) : List Output :=
  [.pin .p2 (flt plusZero s.speed), .pin .p1 true, .wait s.minPulseWidth, .held us, .pin .p1 false]

theorem drive1_log (s : State) :
    (drive1 s).log = s.log ++ pulse s (s.minPulseWidth.toNat + waitExcess s.source s.waits) := by
  simp [drive1, pinWrite, wait, emit, pulse]

theorem driveTable_addsEvents (P : Params) (row : Pins) (n : Nat) (s : State) :
    AddsEvents s (driveTable P row n s) := by
  rw [driveTable, foldl_pinWrite]
  exact ⟨_, by simp [responsesOf, responseIn], rfl⟩

theorem drivePins_addsEvents {P : Params} {s t : State} (h : drivePins P s = .ok t) : AddsEvents s t := by
  unfold drivePins at h
  split_ifs at h <;> cases h
  · exact drive0_addsEvents s
  · exact ⟨_, rfl, drive1_log s⟩
  all_goals exact driveTable_addsEvents P _ _ s

/-- A due step drives the pins by the new position, after its sample and before it writes its time (R166, R220). -/
theorem drivePins_of_stepped {P : Params} {s u : State} (h : runSpeedBody P s = .ok (true, u)) :
    ∃ v, drivePins P (setCurPos (steppedPos s) (takeSample s)) = .ok v ∧ u = setLastStepTime (clockNow s) v := by
  unfold runSpeedBody commitStep at h
  have hpos : steppedPos (takeSample s) = steppedPos s := rfl
  rw [hpos] at h
  split at h
  · cases hd : drivePins P (setCurPos (steppedPos s) (takeSample s)) with
    | error e => rw [hd] at h; cases h
    | ok v =>
      rw [hd] at h
      cases h
      exact ⟨v, rfl, rfl⟩
  · cases h

theorem runSpeedBody_addsEvents {P : Params} {s u : State} (h : runSpeedBody P s = .ok (true, u)) :
    AddsEvents s u := by
  obtain ⟨v, hv, rfl⟩ := drivePins_of_stepped h
  obtain ⟨l, hl, hlog⟩ := drivePins_addsEvents hv
  exact ⟨.sample (clockNow s) :: l, hl, by rw [setLastStepTime_log, hlog]; simp [takeSample, emit]⟩

/-- A command that responds adds its response after what it adds before. -/
theorem events_then_response {s u : State} (h : AddsEvents s u) (v : U32) :
    ∃ events, responsesOf events = [] ∧
      ((respond v u).log = s.log ++ events ∨ ∃ w, (respond v u).log = s.log ++ events ++ [Output.response w]) := by
  obtain ⟨l, hl, hu⟩ := h
  exact ⟨l, hl, .inr ⟨v, by rw [respond_log, hu]⟩⟩

/-- Settles O56: by what each command can leave; a step's events are those of `DRIVE_PINS`. -/
theorem eventsComeBeforeTheOneResponse : Obligations.EventsComeBeforeTheOneResponse := by
  intro i s t h
  cases performed_of_exec h with
  | readBack _ v => exact events_then_response (addsEvents_of_log_eq rfl) v
  | notDue _ _ b => exact events_then_response (takeSample_addsEvents s) (boolResponse b)
  | stepped _ hu => exact events_then_response (runSpeedBody_addsEvents hu) 1#32
  | ran hu =>
    exact events_then_response
      (addsEvents_trans (runSpeedBody_addsEvents hu) (addsEvents_of_log_eq (by simp))) 1#32
  | runToPosition => exact ⟨[], rfl, .inl (by simp)⟩
  | runToNewPosition p => exact ⟨[], rfl, .inl (by simp)⟩
  | _ => exact ⟨[], rfl, .inr ⟨0#32, by simp⟩⟩

/-! ### The clock premise -/

/-- What the premise says of a log it says of the rest of the log, from some time on. -/
theorem clockFrom_of_append {now : Nat} {last : Option Nat} {l m : List Output} (h : ClockFrom now last (l ++ m)) :
    ∃ now' last', ClockFrom now' last' m := by
  induction l generalizing now last with
  | nil => exact ⟨now, last, h⟩
  | cons o l ih =>
    cases o with
    | sample t =>
      obtain ⟨time, -, -, -, h⟩ := h
      exact ih h
    | held us => exact ih (now := now + us) h
    | _ => exact ih (now := now) (last := last) h

/-- The next sample comes at least as much later as the waits before it took (R79), and within one round of the clock
from the sample before (R77). -/
theorem clockFrom_next_sample {now before : Nat} {between later : List Output} {b : U32}
    (hno : ∀ t, .sample t ∉ between) (h : ClockFrom now (some before) (between ++ .sample b :: later)) :
    ∃ time, now + HeldTime between ≤ time ∧ time < before + 2 ^ 32 ∧ b = BitVec.ofNat 32 time := by
  induction between generalizing now with
  | nil =>
    obtain ⟨time, hle, hround, hb, -⟩ := h
    exact ⟨time, hle, hround before rfl, hb⟩
  | cons o between ih =>
    have hno' (t : U32) : .sample t ∉ between := fun ht => hno t (List.mem_cons_of_mem o ht)
    cases o with
    | sample t => exact absurd (List.mem_cons_self ..) (hno t)
    | held us =>
      obtain ⟨time, hle, hrest⟩ := ih hno' (now := now + us) h
      exact ⟨time, by rw [HeldTime]; omega, hrest⟩
    | _ => exact ih hno' (now := now) h

/-- R79 under the premise of R77: the time between two consecutive samples is at least what the waits between them
took. -/
theorem heldTime_le_of_clockMonotone {earlier between later : List Output} {a b : U32}
    (hno : ∀ t, .sample t ∉ between)
    (h : ClockMonotone (earlier ++ [Output.sample a] ++ between ++ [Output.sample b] ++ later)) :
    HeldTime between ≤ (b - a).toNat := by
  simp only [ClockMonotone, List.append_assoc, List.singleton_append] at h
  obtain ⟨now, last, t0, -, -, ha, h⟩ := clockFrom_of_append h
  obtain ⟨t1, hle, hround, hb⟩ := clockFrom_next_sample hno h
  rw [ha, hb, BitVec.toNat_sub, BitVec.toNat_ofNat, BitVec.toNat_ofNat]
  omega

/-! ### The pulse of topology 1 -/

/-- A run command that moves the position has made a step, and responds 1. -/
theorem stepped_of_moved {i : Instr} {s t : State} (hi : StepsOnce i) (h : exec i s = .next t)
    (hmoved : t.curPos ≠ s.curPos) :
    ∃ u, runSpeedBody params s = .ok (true, u) ∧ t.config = u.config ∧ t.lastStepTime = u.lastStepTime ∧
      t.log = u.log ++ [Output.response 1#32] := by
  cases performed_of_exec h with
  | setCurrentPosition p => simp [StepsOnce] at hi
  | stepped _ hu => exact ⟨_, hu, rfl, rfl, rfl⟩
  | ran hu => exact ⟨_, hu, by simp, by simp, by simp⟩
  | _ => exact absurd (by simp) hmoved

/-- What a run command that steps with topology 1 leaves: its sample, the pulse and its response in the log. -/
theorem pulse_of_moved {i : Instr} {s t : State} (hi : StepsOnce i) (ht : s.topology = 1#4) (h : exec i s = .next t)
    (hmoved : t.curPos ≠ s.curPos) :
    t.topology = 1#4 ∧ t.lastStepTime = clockNow s ∧ ∃ excess,
      t.log = s.log ++ [Output.sample (clockNow s)] ++
        (pulse s (s.minPulseWidth.toNat + excess) ++ [Output.response 1#32]) := by
  obtain ⟨u, hu, hconfig, htime, hlog⟩ := stepped_of_moved hi h hmoved
  obtain ⟨v, hv, rfl⟩ := drivePins_of_stepped hu
  have hdrive : drivePins params (setCurPos (steppedPos s) (takeSample s)) =
      .ok (drive1 (setCurPos (steppedPos s) (takeSample s))) := by
    have ht' : (setCurPos (steppedPos s) (takeSample s)).topology = 1#4 := ht
    simp [drivePins, ht']
  cases hv.symm.trans hdrive
  refine ⟨(congrArg topologyOf hconfig).trans ht, htime, waitExcess s.source s.waits, ?_⟩
  rw [hlog, setLastStepTime_log, drive1_log]
  simp [takeSample, emit, pulse]

/-- Settles O30: between the samples of two steps stands the whole pulse of the first, and its wait. -/
theorem pulseBoundsTheStepRate : Obligations.PulseBoundsTheStepRate := by
  refine ⟨fun _ _ _ _ _ => heldTime_le_of_clockMonotone,
    fun i j now s t u hi hj ht h hmoved h' hmoved' hclock => ?_⟩
  obtain ⟨ht', htime, excess, hlog⟩ := pulse_of_moved hi ht h hmoved
  obtain ⟨-, htime', excess', hlog'⟩ := pulse_of_moved (s := { t with clockIn := now }) hj ht' h' hmoved'
  rw [hlog', ← htime', hlog, ← htime] at hclock
  have hpulse := heldTime_le_of_clockMonotone (by simp [pulse]) hclock
  have hheld : HeldTime (pulse s (s.minPulseWidth.toNat + excess) ++ [Output.response 1#32]) =
      s.minPulseWidth.toNat + excess := rfl
  omega

end Sys2Proof.Machine

/-! Proofs: a setter repeated (spec/20_memory.md R84). `APPLY_SPEED` and fault entry are idempotent; a recomputation by
the profile is not, as it starts from the speed the one before left (spec/43_commands.md R210; spec/40_profile.md
R132). -/

namespace Sys2Proof.Machine

open Sys2Proof.Config Sys2Proof.Claim

/-! ### The setters with a refused operand -/

theorem exec_setMaxSpeed (v : F32) (s : State) :
    exec (.setMaxSpeed v) s = .next (if maxSpeedRefused v then raiseFault .invalidMaxSpeed (encode (.setMaxSpeed v)) s
      else respond 0#32 (computeNewSpeed params (setMaxSpeed v s))) := by
  simp only [exec, execSetMaxSpeed, setMaxSpeedWith]
  split <;> rfl

theorem exec_setAcceleration (a : F32) (s : State) :
    exec (.setAcceleration a) s = .next (if accelerationRefused a
      then raiseFault .invalidAcceleration (encode (.setAcceleration a)) s
      else respond 0#32 (computeNewSpeed params (setAccel a s))) := by
  simp only [exec, execSetAcceleration, setAccelerationWith]
  split <;> rfl

theorem exec_setSpeed (v : F32) (s : State) :
    exec (.setSpeed v) s = .next (if speedRefused v then raiseFault .invalidSpeed (encode (.setSpeed v)) s
      else respond 0#32 (applySpeed params v s)) := by
  simp only [exec, execSetSpeed, setSpeedWith]
  split <;> rfl

/-! ### Fault entry, repeated -/

theorem faultedBit_faultStatus (c : Cause) (st : BitVec 32) : faultedBit (faultStatus c st) = true := by
  simp [faultedBit, faultStatus, withFaulted]

/-- Its bits are set already, and `FIRST_CAUSE` is written on the first fault only (R273). -/
theorem faultStatus_faultStatus (c : Cause) (st : BitVec 32) :
    faultStatus c (faultStatus c st) = faultStatus c st := by
  rw [faultStatus, if_pos (faultedBit_faultStatus c st), faultStatus]
  simp only [withFaulted, withCauseBit]
  ext n hn
  simp only [BitVec.getElem_or]
  grind

theorem sameRegisters_respond (v : U32) (s : State) : SameRegisters s (respond v s) := by simp [SameRegisters]

theorem sameRegisters_withSpeed {t u : State} (h : SameRegisters t u) :
    SameRegisters { t with speed := u.speed, stepInterval := u.stepInterval } u := by
  obtain ⟨hcur, htgt, -, hmax, haccel, -, hrest⟩ := h
  exact ⟨hcur, htgt, rfl, hmax, haccel, rfl, hrest⟩

theorem sameRegisters_raiseFault_raiseFault (c : Cause) (f : Frame) (s : State) :
    SameRegisters (raiseFault c f s) (raiseFault c f (raiseFault c f s)) := by
  have hfaulted : (raiseFault c f s).faulted = true := faultedBit_faultStatus c s.status
  simp [SameRegisters, faultStatus_faultStatus, hfaulted]

/-! ### `APPLY_SPEED`, repeated -/

/-- What `APPLY_SPEED` writes depends on `MAX_SPEED` and its operand only. -/
theorem applySpeed_applySpeed (P : Params) (v : F32) (s : State) :
    applySpeed P v (applySpeed P v s) = applySpeed P v s := by
  rcases applySpeed_cases P v s with ⟨-, h⟩ | ⟨-, h⟩
  · rw [h, h]
  · rcases applySpeed_cases P v (applySpeed P v s) with ⟨-, h'⟩ | ⟨-, h'⟩
    · exact h'
    · rw [h', h]
      rfl

theorem applySpeed_respond (P : Params) (v : F32) (w : U32) (s : State) :
    applySpeed P v (respond w s) = respond w (applySpeed P v s) := by
  have hsame : speedUnchanged v (respond w s) = speedUnchanged v s := rfl
  rw [applySpeed, applySpeed, hsame]
  split <;> rfl

/-- At the target the profile asks for speed 0 (R121). -/
theorem computeNewSpeed_at_target (P : Params) {s : State} (h : s.curPos = s.tgtPos) :
    computeNewSpeed P s = applySpeed P plusZero s := by
  have hdistance : s.distance = 0#32 := by rw [State.distance, h, BitVec.sub_self]
  rw [computeNewSpeed, desiredSpeed, if_pos hdistance]

theorem exec_setCurrentPosition (p : S32) (s : State) :
    exec (.setCurrentPosition p) s =
      .next (respond 0#32 (applySpeed params plusZero (setTgtPos p (setCurPos p s)))) := by
  rw [← computeNewSpeed_at_target params (s := setTgtPos p (setCurPos p s)) rfl]
  rfl

/-- Writing the position that is there already. -/
theorem setPositions_applySpeed (P : Params) (v : F32) (p : S32) (w : U32) (s : State) :
    setTgtPos p (setCurPos p (respond w (applySpeed P v (setTgtPos p (setCurPos p s))))) =
      respond w (applySpeed P v (setTgtPos p (setCurPos p s))) := by
  rw [applySpeed_frame]
  rfl

/-- Settles O57: where the speed is applied and not recomputed, and on a refused operand, the second command finds what
it would write; every other register a setter writes holds its operand. -/
theorem repeatingTheseSettersChangesNothing : Obligations.RepeatingTheseSettersChangesNothing := by
  refine ⟨fun i s t u hi ht hu => ?_, fun i s t u hi ht hu => ?_⟩
  · rcases hi with ⟨v, rfl⟩ | ⟨w, rfl⟩ | ⟨p, rfl⟩
    · rw [exec_setSpeed] at ht hu
      cases ht
      cases hu
      split
      · exact sameRegisters_raiseFault_raiseFault _ _ s
      · rw [applySpeed_respond, applySpeed_applySpeed]
        exact sameRegisters_respond 0#32 _
    · cases ht
      cases hu
      simp [SameRegisters]
    · rw [exec_setCurrentPosition] at ht hu
      cases ht
      cases hu
      rw [setPositions_applySpeed, applySpeed_respond, applySpeed_applySpeed]
      exact sameRegisters_respond 0#32 _
  · rcases hi with ⟨p, rfl⟩ | ⟨v, rfl⟩ | ⟨a, rfl⟩
    · cases ht
      cases hu
      simp [SameRegisters]
    · rw [exec_setMaxSpeed] at ht hu
      cases ht
      cases hu
      split
      · exact sameRegisters_withSpeed (sameRegisters_raiseFault_raiseFault _ _ s)
      · simp [SameRegisters]
    · rw [exec_setAcceleration] at ht hu
      cases ht
      cases hu
      split
      · exact sameRegisters_withSpeed (sameRegisters_raiseFault_raiseFault _ _ s)
      · simp [SameRegisters]

/-! ### `MOVE_TO`, repeated -/

/-- The reset state with `MAX_SPEED` 2.0. -/
def fastReset : State := computeNewSpeed params (setMaxSpeed 0x40000000#32 State.reset)

theorem inv_fastReset : Inv fastReset := inv_setMaxSpeed resetEstablishesTheInvariant.1 (by decide)

/-- Refutes O58: from `fastReset` the first `MOVE_TO 1000` leaves the speed from rest, the root of 2, and the second
raises it to the maximum, 2.0. -/
theorem not_repeatedMoveToChangesNothing : ¬ Obligations.RepeatedMoveToChangesNothing := by
  intro h
  obtain ⟨-, -, hspeed, -⟩ := h 1000#32 fastReset _ _ inv_fastReset rfl rfl
  revert hspeed
  decide +kernel

end Sys2Proof.Machine

/-! Proofs: decoding and encoding undo each other, and the opcodes no command has (spec/30_encoding.md R90 to R105;
spec/20_memory.md R81). -/

namespace Sys2Proof.Machine

open Sys2Proof.Laws Sys2Proof.Claim

/-! ### The operand and the frame of a command -/

/-- Taking the operand apart and putting it back is lossless: a `U16` is zero-extended and cut again (R94). -/
theorem withOperand_op_operand (i : Instr) : i.op.withOperand i.operand = i := by
  cases i
  case setMinPulseWidth w =>
    have hcut : (w.setWidth 32).extractLsb' 0 16 = w := by
      rw [← BitVec.setWidth_eq_extractLsb' (by decide), BitVec.setWidth_setWidth_of_le w (by decide),
        BitVec.setWidth_eq]
    exact congrArg Instr.setMinPulseWidth hcut
  all_goals rfl

/-- The frame of every command passes every test the decoder makes (R97). -/
theorem passesTheDecoder : ∀ i : Instr, PassesTheDecoder.Statement i
  | .moveTo p => PassesTheDecoder.moveTo p
  | .move r => PassesTheDecoder.move r
  | .setCurrentPosition p => PassesTheDecoder.setCurrentPosition p
  | .setMaxSpeed v => PassesTheDecoder.setMaxSpeed v
  | .setAcceleration a => PassesTheDecoder.setAcceleration a
  | .setSpeed v => PassesTheDecoder.setSpeed v
  | .setMinPulseWidth w => PassesTheDecoder.setMinPulseWidth w
  | .run => PassesTheDecoder.run
  | .runSpeed => PassesTheDecoder.runSpeed
  | .runSpeedToPosition => PassesTheDecoder.runSpeedToPosition
  | .runToPosition => PassesTheDecoder.runToPosition
  | .runToNewPosition p => PassesTheDecoder.runToNewPosition p
  | .getCurrentPosition => PassesTheDecoder.getCurrentPosition
  | .getTargetPosition => PassesTheDecoder.getTargetPosition
  | .getDistanceToGo => PassesTheDecoder.getDistanceToGo
  | .getSpeed => PassesTheDecoder.getSpeed
  | .getMaxSpeed => PassesTheDecoder.getMaxSpeed
  | .getAcceleration => PassesTheDecoder.getAcceleration
  | .getStepInterval => PassesTheDecoder.getStepInterval
  | .getLastStepTime => PassesTheDecoder.getLastStepTime
  | .getMinPulseWidth => PassesTheDecoder.getMinPulseWidth
  | .getConfig => PassesTheDecoder.getConfig
  | .getStatus => PassesTheDecoder.getStatus
  | .getFaultFrameLo => PassesTheDecoder.getFaultFrameLo
  | .getFaultFrameHi => PassesTheDecoder.getFaultFrameHi

theorem decode_encode (i : Instr) : decode (encode i) = .ok i :=
  (decode_encode_of_passes (passesTheDecoder i)).trans (congrArg Except.ok (withOperand_op_operand i))

/-! ### The bytes of a frame -/

/-- A number below `256^8` is the sum of its eight bytes, so joining the bytes of a frame gives it back (R81). -/
theorem frameOfBytes_frameBytes (f : Frame) : frameOfBytes (frameBytes f) = some f := by
  have hlength : (frameBytes f).length = 8 := by simp [frameBytes]
  have hsum : (frameBytes f).foldr (fun b n => b.toNat + 256 * n) 0 = f.toNat := by
    have hlt := f.isLt
    simp only [frameBytes, List.range, List.range.loop, List.map, List.foldr, BitVec.extractLsb'_toNat,
      Nat.shiftRight_eq_div_pow]
    omega
  rw [frameOfBytes, if_pos hlength, hsum, BitVec.ofNat_toNat, BitVec.setWidth_eq]

theorem decodeBytes_frameBytes (f : Frame) : decodeBytes (frameBytes f) = decode f := by
  rw [decodeBytes, frameOfBytes_frameBytes]

/-- Settles O1: the frame of a command passes the decoder's tests, and neither its fields nor its bytes lose a bit. -/
theorem decodeInvertsEncode : Obligations.DecodeInvertsEncode :=
  fun i => ⟨decode_encode i, (decodeBytes_frameBytes (encode i)).trans (decode_encode i)⟩

/-! ### The fields of a frame -/

/-- The three fields of R90 cover the frame, so with `RSVD` 0 the other two determine it. -/
theorem mkFrame_operandOf_opcodeOf {f : Frame} (h : rsvdOf f = 0#24) : mkFrame (operandOf f) (opcodeOf f) = f := by
  have hreserved (n : Nat) (h8 : 8 ≤ n) (h32 : n < 32) : f.getLsbD n = false := by
    have hbit : (rsvdOf f).getLsbD (n - 8) = false := by rw [h, BitVec.getLsbD_zero]
    simpa [rsvdOf, show n - 8 < 24 by omega, show 8 + (n - 8) = n by omega] using hbit
  apply BitVec.eq_of_getLsbD_eq
  intro n hn
  by_cases h32 : n < 32
  · by_cases h8 : n < 8
    · simp [mkFrame, opcodeOf, hn, h32, h8]
    · simpa [mkFrame, opcodeOf, hn, h32, h8] using hreserved n (by omega) h32
  · simp [mkFrame, operandOf, opcodeOf, hn, h32, show ¬ n < 8 by omega, show n - 32 < 32 by omega,
      show 32 + (n - 32) = n by omega]

/-- Settles O2: the decoder keeps the opcode and the operand, and refuses the frame unless its other bits are 0. -/
theorem encodeInvertsDecode : Obligations.EncodeInvertsDecode := by
  intro f i h
  obtain ⟨o, ho, hrsvd, hnone, hu16, rfl⟩ := decode_eq_ok h
  rw [encode, operand_withOperand o _ hnone hu16, op_withOperand, opcode_of_ofOpcode ho,
    mkFrame_operandOf_opcodeOf hrsvd]

/-! ### The unassigned opcodes -/

/-- The opcode is the decoder's first test: no other refusal gives this reason (R97). -/
theorem decode_eq_unassignedOpcode_iff (f : Frame) :
    decode f = .error .unassignedOpcode ↔ Op.ofOpcode (opcodeOf f) = none := by
  unfold decode
  cases Op.ofOpcode (opcodeOf f) with
  | none => simp
  | some o => dsimp only; split_ifs <;> simp

/-- Settles O3: the opcode map is empty exactly at those opcodes, and they are counted. -/
theorem unassignedOpcodesAreExactlyThese : Obligations.UnassignedOpcodesAreExactlyThese := by
  refine ⟨fun f => ?_, by decide +kernel⟩
  rw [decode_eq_unassignedOpcode_iff, ofOpcode_eq_none_iff, toNat_opcodeOf]

/-! ### The examples -/

/-- Settles O5: the decoder run on the nine frames. -/
theorem exampleFramesDecode : Obligations.ExampleFramesDecode := by
  unfold Obligations.ExampleFramesDecode
  decide

end Sys2Proof.Machine

/-! Proofs: rounding keeps the order and leaves the codes where they are (spec/00_scope.md R11), so a bound on an
exact result by the value of a code is the same bound on the rounded one. -/

namespace Sys2Proof.Machine

open Sys2Proof.Claim

/-! ### Rounding a magnitude -/

/-- Rounding is monotone: were the larger quotient given the smaller code, both would lie on the midpoint of the two
codes, which then are even and have a code between them. -/
theorem roundUnits_mono {n d n' d' : Nat} (hd : 0 < d) (hd' : 0 < d') (h : n * d' ≤ n' * d) :
    roundUnits n d ≤ roundUnits n' d' := by
  obtain ⟨hm, hnear⟩ := nearestCode_roundUnits n hd
  obtain ⟨hm', hnear'⟩ := nearestCode_roundUnits n' hd'
  generalize roundUnits n d = m at *
  generalize roundUnits n' d' = m' at *
  by_contra hlt
  obtain ⟨-, hbelow, heven⟩ := hnear m' hm'
  obtain ⟨habove, -, heven'⟩ := hnear' m hm
  obtain ⟨hnext, -, -⟩ := hnear' (m' + 1) (by omega)
  have hcross : (units m' + units m) * d' * d = (units m + units m') * d * d' := by ring
  have hup : 2 * n' * d ≤ (units m' + units m) * d' * d := Nat.mul_le_mul_right d (habove (by omega))
  have hdown : (units m + units m') * d * d' ≤ 2 * n * d' := Nat.mul_le_mul_right d' (hbelow (by omega))
  have htie : 2 * n = (units m + units m') * d := Nat.eq_of_mul_eq_mul_right hd' (by linarith)
  have htie' : 2 * n' = (units m' + units m) * d' := Nat.eq_of_mul_eq_mul_right hd (by linarith)
  have hm2 : m % 2 = 0 := heven (by omega) htie
  have hm2' : m' % 2 = 0 := heven' (by omega) htie'
  have hstep : units (m' + 1) < units m := units_strictMono (by omega)
  have hmid : (units m' + units (m' + 1)) * d' < (units m' + units m) * d' :=
    Nat.mul_lt_mul_of_pos_right (by omega) hd'
  have := hnext (by omega)
  omega

/-- The value of a code is rounded to that code. -/
theorem roundUnits_units {m d : Nat} (hd : 0 < d) (hm : m ≤ infMag) : roundUnits (units m * d) d = m := by
  obtain ⟨-, hnear⟩ := nearestCode_roundUnits (units m * d) hd
  obtain ⟨hbelow, habove, -⟩ := hnear m hm
  rw [← Nat.mul_assoc] at hbelow habove
  rcases lt_trichotomy (roundUnits (units m * d) d) m with h | h | h
  · have := Nat.le_of_mul_le_mul_right (hbelow h) hd
    have := units_strictMono h
    omega
  · exact h
  · have := Nat.le_of_mul_le_mul_right (habove h) hd
    have := units_strictMono h
    omega

theorem le_roundUnits {m n d : Nat} (hd : 0 < d) (hm : m ≤ infMag) (h : units m * d ≤ n) : m ≤ roundUnits n d := by
  rw [← roundUnits_units hd hm]
  exact roundUnits_mono hd hd (Nat.mul_le_mul_right d h)

theorem roundUnits_le_code {m n d : Nat} (hd : 0 < d) (hm : m ≤ infMag) (h : n ≤ units m * d) :
    roundUnits n d ≤ m := by
  rw [← roundUnits_units hd hm]
  exact roundUnits_mono hd hd (Nat.mul_le_mul_right d h)

/-- From one code to the next a value at most doubles. -/
theorem units_succ_le_double {c : Nat} (hc : 0 < c) : units (c + 1) ≤ 2 * units c := by
  obtain ⟨k, q, rfl, hq, hk, hpos⟩ : ∃ k q, c = k * 2 ^ 23 + q ∧ q < 2 ^ 24 ∧ (k = 0 ∨ 2 ^ 23 ≤ q) ∧ 0 < q :=
    ⟨c / 2 ^ 23 - 1, c - (c / 2 ^ 23 - 1) * 2 ^ 23, by omega, by omega, by omega, by omega⟩
  rw [Nat.add_assoc, units_scaled hq.le hk, units_scaled hq (by omega), ← Nat.mul_assoc]
  exact Nat.mul_le_mul_right _ (by omega)

/-! ### Rounding a signed sum -/

/-- The key of the binary32 value nearest to `z` units of 2^-149. -/
def roundKey (z : Int) : Int := if z < 0 then -(roundUnits z.natAbs 1 : Int) else roundUnits z.natAbs 1

theorem roundKey_zero : roundKey 0 = 0 := by decide

theorem roundKey_one : roundKey 1 = 1 := by decide

theorem roundKey_neg (z : Int) : roundKey (-z) = -roundKey z := by
  rcases lt_trichotomy z 0 with h | rfl | h
  · simp [roundKey, h, h.le]
  · simp [roundKey_zero]
  · simp [roundKey, h, h.le]

theorem monotone_roundKey : Monotone roundKey := by
  intro y z h
  have hmono (a b : Nat) (hab : a ≤ b) : roundUnits a 1 ≤ roundUnits b 1 :=
    roundUnits_mono one_pos one_pos (by omega)
  unfold roundKey
  split_ifs with hy hz hz
  · have := hmono z.natAbs y.natAbs (by omega)
    omega
  · omega
  · omega
  · have := hmono y.natAbs z.natAbs (by omega)
    omega

theorem fkey_pack (b : Bool) {m : Nat} (h : m < 2 ^ 31) : fkey (pack b m) = if b then -(m : Int) else m := by
  rw [fkey, fsign_pack b h, fmag_pack b h]

theorem fkey_of_fsign {a : F32} (h : fsign a = false) : fkey a = fmag a := by simp [fkey, h]

theorem isNaN_of_isInf {a : F32} (h : isInf a = true) : isNaN a = false := by simp_all [isInf, isNaN]

theorem roundKey_funits {a : F32} (ha : isFinite a = true) : roundKey (funits a) = fkey a := by
  have hmag : fmag a ≤ infMag := by simp only [isFinite, decide_eq_true_eq] at ha; omega
  have hround : roundUnits (units (fmag a)) 1 = fmag a := by simpa using roundUnits_units one_pos hmag
  have hpos : roundKey (units (fmag a)) = fmag a := by simp [roundKey, hround]
  unfold funits fkey
  split
  · rw [roundKey_neg, hpos]
  · exact hpos

/-- A sum of finite values is the rounded exact sum; an exact zero sum is a zero. -/
theorem fkey_ieeeAdd {a b : F32} (ha : isFinite a = true) (hb : isFinite b = true) :
    fkey (ieeeAdd a b) = roundKey (funits a + funits b) := by
  by_cases h0 : funits a + funits b = 0
  · rw [isFinite_eq] at ha hb
    simp only [Bool.and_eq_true, Bool.not_eq_true'] at ha hb
    simp [ieeeAdd, ha, hb, h0, roundKey_zero, fkey_pack]
  · rw [ieeeAdd_finite ha hb h0, fkey_pack _ (roundUnits_lt _ _)]
    simp [roundKey]

theorem ieeeAdd_of_isInf {a b : F32} (ha : isFinite a = true) (hb : isInf b = true) : ieeeAdd a b = b := by
  have hnan := isNaN_of_isInf hb
  rw [isFinite_eq, Bool.and_eq_true, Bool.not_eq_true', Bool.not_eq_true'] at ha
  simp [ieeeAdd, ha, hb, hnan]

@[simp] theorem funits_fneg (a : F32) : funits (fneg a) = -funits a := by
  simp only [funits, fsign_fneg, fmag_fneg]
  cases fsign a <;> simp

/-- Subtraction mirrors addition, as values. -/
theorem fkey_ieeeSub {a b : F32} (ha : isFinite a = true) (hb : isNaN b = false) :
    fkey (ieeeSub a b) = -fkey (ieeeAdd (fneg a) b) := by
  have ha' : isFinite (fneg a) = true := (isFinite_fneg a).trans ha
  cases hinf : isInf b with
  | true =>
    rw [ieeeSub, ieeeAdd_of_isInf ha ((isInf_fneg b).trans hinf), ieeeAdd_of_isInf ha' hinf, fkey_fneg]
  | false =>
    have hfin : isFinite b = true := by simp [isFinite_eq, hb, hinf]
    rw [ieeeSub, fkey_ieeeAdd ha ((isFinite_fneg b).trans hfin), fkey_ieeeAdd ha' hfin, ← roundKey_neg,
      funits_fneg, funits_fneg]
    congr 1
    ring

/-- Adding a value that is not negative does not lower a finite one. -/
theorem fkey_le_fkey_ieeeAdd {a b : F32} (ha : isFinite a = true) (hb : isNaN b = false) (hs : fsign b = false) :
    fkey a ≤ fkey (ieeeAdd a b) := by
  cases hinf : isInf b with
  | true =>
    obtain ⟨-, -, hlt⟩ := flt_iff.mp ((flt_isInf_iff ha hinf).mpr hs)
    rw [ieeeAdd_of_isInf ha hinf]
    exact hlt.le
  | false =>
    rw [fkey_ieeeAdd ha (by simp [isFinite_eq, hb, hinf]), ← roundKey_funits ha]
    exact monotone_roundKey (by simp [funits, hs])

/-- What is left after subtracting a smaller value is above zero. -/
theorem fkey_ieeeSub_pos {a b : F32} (ha : isFinite a = true) (hb : isFinite b = true) (h : fkey b < fkey a) :
    0 < fkey (ieeeSub a b) := by
  have hlt := (fkey_lt_fkey_iff_funits b a).mp h
  rw [ieeeSub, fkey_ieeeAdd ha ((isFinite_fneg b).trans hb), funits_fneg]
  have : roundKey 1 ≤ roundKey (funits a + -funits b) := monotone_roundKey (by omega)
  rw [roundKey_one] at this
  omega

/-! ### Products and quotients without their sign -/

@[simp] theorem fabs_pack (b : Bool) {m : Nat} (h : m < 2 ^ 31) : fabs (pack b m) = pack false m := by
  rw [← pack_fsign_fmag (fabs (pack b m)), fsign_fabs, fmag_fabs, fmag_pack b h]

theorem fabs_ieeeDiv_finite {a b : F32} (ha : isFinite a = true) (hb : isFinite b = true) (h0 : isZero b = false) :
    fabs (ieeeDiv a b) = pack false (roundUnits (units (fmag a) * 2 ^ 149) (units (fmag b))) := by
  rw [ieeeDiv_finite ha hb h0, fabs_pack _ (roundUnits_lt _ _)]

theorem fabs_ieeeDiv_isInf {a b : F32} (ha : isFinite a = true) (hb : isInf b = true) :
    fabs (ieeeDiv a b) = plusZero := by
  have hnan := isNaN_of_isInf hb
  have hz : isZero b = false := by simp_all [isInf, isZero, infMag]
  rw [isFinite_eq, Bool.and_eq_true, Bool.not_eq_true', Bool.not_eq_true'] at ha
  simp only [ieeeDiv, ha, hb, hnan, hz, Bool.or_self, Bool.and_false, Bool.false_eq_true, if_false,
    if_true, Bool.false_and]
  rw [fabs_pack _ (by decide)]
  rfl

/-- The magnitude of a quotient does not depend on the sign of the divisor. -/
theorem fabs_ieeeDiv_fneg {a b : F32} (ha : isFinite a = true) (hb : isNaN b = false) (h0 : isZero b = false) :
    fabs (ieeeDiv a (fneg b)) = fabs (ieeeDiv a b) := by
  cases hinf : isInf b with
  | true => rw [fabs_ieeeDiv_isInf ha hinf, fabs_ieeeDiv_isInf ha ((isInf_fneg b).trans hinf)]
  | false =>
    have hfin : isFinite b = true := by simp [isFinite_eq, hb, hinf]
    have hfin' := (isFinite_fneg b).trans hfin
    rw [fabs_ieeeDiv_finite ha hfin h0, fabs_ieeeDiv_finite ha hfin' ((isZero_fneg b).trans h0), fmag_fneg]

end Sys2Proof.Machine

/-! Proofs: the interval of a speed (spec/40_profile.md R131). A bound on the speed is a bound on the exact quotient,
and so on the rounded one: `1.0` and `2^32` are values of codes. -/

namespace Sys2Proof.Machine

open Sys2Proof.Config Sys2Proof.Claim

theorem units_million : units (fmag million) = 10 ^ 6 * 2 ^ 149 := by decide +kernel

/-- The code of `1.0`. -/
def oneCode : Nat := 0x3F800000

theorem units_oneCode : units oneCode = 2 ^ 149 := by decide +kernel

theorem feq_plusZero_iff {v : F32} (hv : isNaN v = false) : feq v plusZero = true ↔ isZero v = true := by
  rw [feq_of_not_nan hv isNaN_plusZero, fkey_plusZero, decide_eq_true_eq, fkey_eq_zero_iff]

theorem flt_million_fabs_iff {v : F32} (hv : isNaN v = false) :
    flt million (fabs v) = true ↔ fmag million < fmag v := by
  have hkey : fkey million = fmag million := fkey_of_fsign (by decide)
  rw [flt_of_not_nan (by decide) ((isNaN_fabs v).trans hv), fkey_fabs, hkey, decide_eq_true_eq, Int.ofNat_lt]

/-- Truncation of a value that is not negative; infinity saturates as the value its code stands for. -/
theorem toNat_truncSatU32_pack {m : Nat} (h : m ≤ infMag) :
    (truncSatU32 (pack false m)).toNat = min (units m / 2 ^ 149) 0xFFFFFFFF := by
  have hlt : m < 2 ^ 31 := h.trans_lt infMag_lt
  have hinf : units infMag / 2 ^ 149 = 2 ^ 128 := by decide +kernel
  simp only [truncSatU32, isNaN_pack false h, fsign_pack false hlt, Bool.false_and, Bool.or_self, Bool.false_eq_true,
    if_false, isInf, fmag_pack false hlt, beq_iff_eq]
  split
  · subst m
    rw [hinf]
    rfl
  · rw [BitVec.toNat_ofNat, Nat.mod_eq_of_lt (by omega)]

/-- The magnitude code of `fdiv(1000000.0, v)`. -/
def millionOver (v : F32) : Nat := roundUnits (10 ^ 6 * 2 ^ 149 * 2 ^ 149) (units (fmag v))

theorem fmag_million_div {v : F32} (hv : isFinite v = true) (h0 : isZero v = false) :
    fmag (ieeeDiv million v) = millionOver v := by
  rw [ieeeDiv_finite (by decide) hv h0, fmag_pack _ (roundUnits_lt _ _), units_million, millionOver]

theorem intervalOf_of_isZero {v : F32} (hv : isNaN v = false) (h0 : isZero v = true) : intervalOf params v = 0#32 :=
  if_pos ((feq_plusZero_iff hv).mpr h0)

theorem intervalOf_of_not_isZero {v : F32} (hv : isNaN v = false) (h0 : isZero v = false) :
    intervalOf params v = truncSatU32 (fabs (ieeeDiv million v)) :=
  if_neg (by rw [feq_plusZero_iff hv, h0]; decide)

theorem intervalOf_of_isInf {v : F32} (hv : isInf v = true) : intervalOf params v = 0#32 := by
  have h0 : isZero v = false := by simp_all [isInf, isZero, infMag]
  rw [intervalOf_of_not_isZero (isNaN_of_isInf hv) h0, fabs_ieeeDiv_isInf (by decide) hv]
  decide +kernel

/-- The interval of a finite speed that is not zero. -/
theorem toNat_intervalOf {v : F32} (hv : isFinite v = true) (h0 : isZero v = false) :
    (intervalOf params v).toNat = min (units (millionOver v) / 2 ^ 149) 0xFFFFFFFF := by
  rw [intervalOf_of_not_isZero (isNaN_of_isFinite hv) h0, fabs_ieeeDiv_finite (by decide) hv h0, units_million]
  exact toNat_truncSatU32_pack (roundUnits_le _ _)

theorem units_fmag_pos {v : F32} (h0 : isZero v = false) : 0 < units (fmag v) :=
  units_pos (Nat.pos_of_ne_zero (by simpa [isZero] using h0))

theorem oneCode_le_millionOver {v : F32} (h0 : isZero v = false) (h : fmag v ≤ fmag million) :
    oneCode ≤ millionOver v := by
  refine le_roundUnits (units_fmag_pos h0) (by decide) ?_
  have hv : units (fmag v) ≤ 10 ^ 6 * 2 ^ 149 := units_million ▸ units_strictMono.monotone h
  rw [units_oneCode]
  omega

/-- The first value above 10^6 has a quotient that rounds below 1. -/
theorem millionOver_lt_oneCode {v : F32} (h : fmag million < fmag v) : millionOver v < oneCode := by
  have hnext : units (fmag million + 1) = 10 ^ 6 * 2 ^ 149 + 2 ^ 145 := by decide +kernel
  have hv : 10 ^ 6 * 2 ^ 149 + 2 ^ 145 ≤ units (fmag v) := hnext ▸ units_strictMono.monotone h
  have hbelow : units (oneCode - 1) = 2 ^ 149 - 2 ^ 125 := by decide +kernel
  have : millionOver v ≤ oneCode - 1 := by
    refine roundUnits_le_code (by omega) (by decide) ?_
    rw [hbelow]
    omega
  exact this.trans_lt (by decide)

/-- Settles O24: a quotient is truncated to 0 exactly when it is rounded below `1.0`. -/
theorem intervalIsZeroExactlyOutsideTheRange : Obligations.IntervalIsZeroExactlyOutsideTheRange := by
  intro v hv
  rw [feq_plusZero_iff hv, flt_million_fabs_iff hv]
  cases h0 : isZero v with
  | true => simp [intervalOf_of_isZero hv h0]
  | false =>
    cases hinf : isInf v with
    | true =>
      have hmag : fmag v = infMag := by simpa [isInf] using hinf
      simp [intervalOf_of_isInf hinf, hmag]
      decide
    | false =>
      have hint := toNat_intervalOf (by simp [isFinite_eq, hv, hinf]) h0
      rw [← BitVec.toNat_inj, hint]
      rcases Nat.lt_or_ge (fmag million) (fmag v) with h | h
      · have := units_strictMono (millionOver_lt_oneCode h)
        rw [units_oneCode] at this
        simp only [h, or_true, iff_true, BitVec.toNat_ofNat]
        omega
      · have := units_strictMono.monotone (oneCode_le_millionOver h0 h)
        rw [units_oneCode] at this
        simp only [Nat.not_lt.mpr h, Bool.false_eq_true, or_self, iff_false, BitVec.toNat_ofNat]
        omega

theorem intervalOf_fneg {v : F32} (hv : isNaN v = false) : intervalOf params (fneg v) = intervalOf params v := by
  have hv' := (isNaN_fneg v).trans hv
  cases h0 : isZero v with
  | true => rw [intervalOf_of_isZero hv h0, intervalOf_of_isZero hv' ((isZero_fneg v).trans h0)]
  | false =>
    rw [intervalOf_of_not_isZero hv h0, intervalOf_of_not_isZero hv' ((isZero_fneg v).trans h0),
      fabs_ieeeDiv_fneg (by decide) hv h0]

/-- A speed of which 2^32 still fit into 10^6 has a quotient of at least 2^32, and the interval saturates. -/
theorem intervalOf_saturates {v : F32} (hv : isFinite v = true) (h0 : isZero v = false)
    (h : units (fmag v) * 2 ^ 32 ≤ 10 ^ 6 * 2 ^ 149) : intervalOf params v = 0xFFFFFFFF#32 := by
  have hcode : units 0x4F800000 = 2 ^ 32 * 2 ^ 149 := by decide +kernel
  have hround : 0x4F800000 ≤ millionOver v := by
    refine le_roundUnits (units_fmag_pos h0) (by decide) ?_
    rw [hcode]
    omega
  have := units_strictMono.monotone hround
  rw [hcode] at this
  rw [← BitVec.toNat_inj, toNat_intervalOf hv h0, BitVec.toNat_ofNat]
  omega

/-- Settles O25: truncation is division by `2^149` units, of a quotient without its sign. -/
theorem intervalIsTheWholePartOfTheQuotient : Obligations.IntervalIsTheWholePartOfTheQuotient := by
  refine ⟨fun v hv h0 hq => ?_, fun v => intervalOf_saturates, fun v => intervalOf_fneg⟩
  rw [show ieeeDiv 0x49742400#32 v = ieeeDiv million v from rfl, fmag_million_div hv h0] at hq ⊢
  rw [toNat_intervalOf hv h0]
  omega

end Sys2Proof.Machine

/-! Proofs: the speed profile (spec/40_profile.md R120 to R129, R135). Its results are compared by their keys: a raised
speed is not below the speed before it, and lowering mirrors raising, so the bounds of one are those of the other. -/

namespace Sys2Proof.Machine

open Sys2Proof.Config Sys2Proof.Claim

/-! ### Legal registers -/

/-- The profile does not read `STEP_INTERVAL`, which may as well be that of the speed. -/
def withOwnInterval (s : State) : State := { s with stepInterval := intervalOf params s.speed }

theorem speedWritable_withOwnInterval {s : State} (h : RegistersLegal s) : SpeedWritable (withOwnInterval s) := by
  obtain ⟨hm, h0, ha, hpos, habove, hbelow⟩ := h
  exact speedWritable_of_motionLegal ⟨⟨hm, h0, ha, hpos, habove, hbelow⟩, rfl⟩

theorem fkey_maxSpeed_nonneg {s : State} (h : RegistersLegal s) : 0 ≤ fkey s.maxSpeed := by
  obtain ⟨-, -, hkey⟩ := fle_iff.mp h.maxSpeed_nonneg
  rwa [fkey_plusZero] at hkey

theorem fkey_speed_within {s : State} (h : RegistersLegal s) :
    -fkey s.maxSpeed ≤ fkey s.speed ∧ fkey s.speed ≤ fkey s.maxSpeed := by
  obtain ⟨-, -, habove⟩ := fle_iff.mp h.speed_above
  obtain ⟨-, -, hbelow⟩ := fle_iff.mp h.speed_below
  exact ⟨fkey_fneg s.maxSpeed ▸ habove, hbelow⟩

theorem isNaN_maxSpeed {s : State} (h : RegistersLegal s) : isNaN s.maxSpeed = false :=
  isNaN_of_isFinite h.maxSpeed_finite

theorem isNaN_speed {s : State} (h : RegistersLegal s) : isNaN s.speed = false :=
  isNaN_of_isFinite (speed_finite_of_legal h)

theorem isNaN_desiredSpeed_of_legal {s : State} (h : RegistersLegal s) : isNaN (desiredSpeed params s) = false :=
  isNaN_desiredSpeed (s := withOwnInterval s) (speedWritable_withOwnInterval h)

theorem fmag_accel_pos {s : State} (h : RegistersLegal s) : 0 < fmag s.accel := by
  obtain ⟨-, -, hkey⟩ := flt_iff.mp h.accel_pos
  rw [fkey_plusZero, fkey_of_fsign (fsign_of_pos h.accel_pos)] at hkey
  omega

theorem legal_mirror {s : State} (h : RegistersLegal s) : RegistersLegal (mirror s) := by
  obtain ⟨hlo, hhi⟩ := fkey_speed_within h
  have hm := isNaN_maxSpeed h
  have hv := isNaN_speed h
  refine ⟨h.maxSpeed_finite, h.maxSpeed_nonneg, h.accel_finite, h.accel_pos, ?_, ?_⟩ <;>
    simp only [mirror, fle_iff, isNaN_fneg, fkey_fneg] <;> exact ⟨by assumption, by assumption, by omega⟩

theorem mirror_mirror (s : State) : mirror (mirror s) = s := by simp [mirror]

theorem distance_mirror (s : State) : (mirror s).distance = -s.distance := (neg_sub' s.tgtPos s.curPos).symm

/-! ### One change of the speed -/

theorem isNaN_jumpStart_of_legal {s : State} (h : RegistersLegal s) : isNaN (jumpStart params s) = false :=
  isNaN_jumpStart (s := withOwnInterval s) (speedWritable_withOwnInterval h)

theorem isNaN_speedChange_of_legal {s : State} (h : RegistersLegal s) (h0 : ¬ feq s.speed plusZero = true) :
    isNaN (speedChange params s) = false :=
  isNaN_speedChange (s := withOwnInterval s) (speedWritable_withOwnInterval h) h0

/-- R124 before its clamp: the speed from rest, or one change up. -/
def raisedFree (s : State) : F32 :=
  if feq s.speed plusZero then jumpStart params s else ieeeAdd s.speed (speedChange params s)

/-- R125 before its clamp. -/
def loweredFree (s : State) : F32 :=
  if feq s.speed plusZero then fneg (jumpStart params s) else ieeeSub s.speed (speedChange params s)

theorem raisedGeneric_eq (s : State) :
    raisedGeneric params s = if flt s.maxSpeed (raisedFree s) then s.maxSpeed else raisedFree s := rfl

theorem loweredGeneric_eq (s : State) :
    loweredGeneric params s =
      if flt (loweredFree s) (fneg s.maxSpeed) then fneg s.maxSpeed else loweredFree s := rfl

theorem isNaN_raisedFree {s : State} (h : RegistersLegal s) : isNaN (raisedFree s) = false :=
  isNaN_ite (fun _ => isNaN_jumpStart_of_legal h) fun h0 =>
    isNaN_ieeeAdd (speed_finite_of_legal h) (isNaN_speedChange_of_legal h h0)

theorem isNaN_loweredFree {s : State} (h : RegistersLegal s) : isNaN (loweredFree s) = false :=
  isNaN_ite (fun _ => (isNaN_fneg _).trans (isNaN_jumpStart_of_legal h)) fun h0 =>
    isNaN_ieeeAdd (speed_finite_of_legal h) ((isNaN_fneg _).trans (isNaN_speedChange_of_legal h h0))

theorem units_two : units (fmag two) = 2 ^ 150 := by decide +kernel

theorem fkey_ieeeSqrt_pos {a : F32} (ha : isNaN a = false) (hs : fsign a = false) (h0 : isZero a = false) :
    0 < fkey (ieeeSqrt a) := by
  have hmag : 0 < fmag a := Nat.pos_of_ne_zero (by simpa [isZero] using h0)
  cases hinf : isInf a with
  | true =>
    have hroot : ieeeSqrt a = a := by simp [ieeeSqrt, ha, hs, hinf]
    rw [hroot, fkey_of_fsign hs]
    omega
  | false =>
    obtain ⟨hsign, -, hnear⟩ := squareRootRoundsToNearestEven a (by simp [isFinite_eq, ha, hinf]) (.inl hs)
    obtain ⟨hbelow, -, -⟩ := hnear 1 (by decide)
    have hroot : fmag (ieeeSqrt a) ≠ 0 := by
      intro hz
      rw [hz] at hbelow
      have := hbelow one_pos
      have := units_pos hmag
      have hone : (units 0 + units 1) ^ 2 = 1 := by decide
      omega
    rw [fkey_of_fsign (hsign.trans hs)]
    omega

/-- From rest the speed jumps above zero. -/
theorem fkey_jumpStart_pos {s : State} (h : RegistersLegal s) : 0 < fkey (jumpStart params s) := by
  have hmul : ieeeMul two s.accel = pack false (roundUnits (units (fmag two) * units (fmag s.accel)) (2 ^ 149)) := by
    rw [ieeeMul_finite (by decide) h.accel_finite, fsign_of_pos h.accel_pos]
    rfl
  have hcode : 1 ≤ roundUnits (units (fmag two) * units (fmag s.accel)) (2 ^ 149) := by
    refine le_roundUnits (by decide) (by decide) ?_
    have hone : units 1 = 1 := by decide
    have := units_pos (fmag_accel_pos h)
    rw [units_two, hone]
    omega
  refine fkey_ieeeSqrt_pos (a := ieeeMul two s.accel) ?_ ?_ ?_ <;> rw [hmul]
  · exact isNaN_pack _ (roundUnits_le _ _)
  · exact fsign_pack _ (roundUnits_lt _ _)
  · rw [isZero, fmag_pack _ (roundUnits_lt _ _), beq_eq_false_iff_ne]
    omega

theorem isZero_speed_of_moving {s : State} (h : RegistersLegal s) (h0 : ¬ feq s.speed plusZero = true) :
    isZero s.speed = false := by
  rwa [feq_plusZero_iff (isNaN_speed h), Bool.not_eq_true] at h0

/-- Raising does not lower the speed, and it leaves rest (R124, D10). -/
theorem speed_le_raisedFree {s : State} (h : RegistersLegal s) :
    fkey s.speed ≤ fkey (raisedFree s) ∧ (fkey s.speed = 0 → 0 < fkey (raisedFree s)) := by
  unfold raisedFree
  split
  · next h0 =>
    have hzero : fkey s.speed = 0 := by
      obtain ⟨-, -, hkey⟩ := feq_iff.mp h0
      rwa [fkey_plusZero] at hkey
    have := fkey_jumpStart_pos h
    omega
  · next h0 =>
    have hkey : fkey s.speed ≠ 0 := fun hz => by
      have := isZero_speed_of_moving h h0
      rw [(fkey_eq_zero_iff _).mp hz] at this
      cases this
    exact ⟨fkey_le_fkey_ieeeAdd (speed_finite_of_legal h) (isNaN_speedChange_of_legal h h0) (fsign_fabs _),
      fun hz => absurd hz hkey⟩

theorem feq_speed_mirror {s : State} (h : RegistersLegal s) :
    feq (mirror s).speed plusZero = feq s.speed plusZero := by
  have hv := isNaN_speed h
  have hv' : isNaN (mirror s).speed = false := (isNaN_fneg _).trans hv
  rw [Bool.eq_iff_iff, feq_plusZero_iff hv, feq_plusZero_iff hv']
  exact Bool.eq_iff_iff.mp (isZero_fneg _)

theorem speedChange_mirror {s : State} (h : RegistersLegal s) (h0 : ¬ feq s.speed plusZero = true) :
    speedChange params (mirror s) = speedChange params s :=
  fabs_ieeeDiv_fneg h.accel_finite (isNaN_speed h) (isZero_speed_of_moving h h0)

/-- Lowering mirrors raising. -/
theorem fkey_loweredFree {s : State} (h : RegistersLegal s) :
    fkey (loweredFree s) = -fkey (raisedFree (mirror s)) := by
  unfold loweredFree raisedFree
  rw [feq_speed_mirror h]
  split
  · rw [fkey_fneg]
    rfl
  · next h0 =>
    rw [speedChange_mirror h h0, fkey_ieeeSub (speed_finite_of_legal h) (isNaN_speedChange_of_legal h h0)]
    rfl

theorem loweredFree_le_speed {s : State} (h : RegistersLegal s) :
    fkey (loweredFree s) ≤ fkey s.speed ∧ (fkey s.speed = 0 → fkey (loweredFree s) < 0) := by
  have hmirror := speed_le_raisedFree (legal_mirror h)
  have hspeed : fkey (mirror s).speed = -fkey s.speed := fkey_fneg _
  rw [hspeed] at hmirror
  rw [fkey_loweredFree h]
  omega

/-! ### The clamps -/

theorem fkey_clampAbove {m r : F32} (hm : isNaN m = false) (hr : isNaN r = false) :
    fkey (if flt m r then m else r) = min (fkey m) (fkey r) := by
  rw [flt_of_not_nan hm hr]
  simp only [decide_eq_true_eq]
  split <;> omega

theorem fkey_clampBelow {m r : F32} (hm : isNaN m = false) (hr : isNaN r = false) :
    fkey (if flt r m then m else r) = max (fkey m) (fkey r) := by
  rw [flt_of_not_nan hr hm]
  simp only [decide_eq_true_eq]
  split <;> omega

theorem fkey_raisedGeneric {s : State} (h : RegistersLegal s) :
    fkey (raisedGeneric params s) = min (fkey s.maxSpeed) (fkey (raisedFree s)) := by
  rw [raisedGeneric_eq]
  exact fkey_clampAbove (isNaN_maxSpeed h) (isNaN_raisedFree h)

theorem fkey_loweredGeneric {s : State} (h : RegistersLegal s) :
    fkey (loweredGeneric params s) = max (-fkey s.maxSpeed) (fkey (loweredFree s)) := by
  rw [loweredGeneric_eq, ← fkey_fneg]
  exact fkey_clampBelow ((isNaN_fneg _).trans (isNaN_maxSpeed h)) (isNaN_loweredFree h)

theorem fkey_loweredGeneric_eq_mirror {s : State} (h : RegistersLegal s) :
    fkey (loweredGeneric params s) = -fkey (raisedGeneric params (mirror s)) := by
  have hmax : fkey (mirror s).maxSpeed = fkey s.maxSpeed := rfl
  rw [fkey_loweredGeneric h, fkey_raisedGeneric (legal_mirror h), fkey_loweredFree h, hmax]
  omega

/-- At `MAX_SPEED` the raised speed is `MAX_SPEED`: another pattern of the same value could only be the other zero,
which rest leaves. -/
theorem raisedGeneric_at_max {s : State} (h : RegistersLegal s) (hs : feq s.speed s.maxSpeed = true) :
    raisedGeneric params s = s.maxSpeed := by
  obtain ⟨-, -, hkey⟩ := feq_iff.mp hs
  obtain ⟨hle, hrest⟩ := speed_le_raisedFree h
  by_cases h0 : fkey s.maxSpeed = 0
  · rw [raisedGeneric_eq, if_pos]
    exact flt_iff.mpr ⟨isNaN_maxSpeed h, isNaN_raisedFree h, by omega⟩
  · refine (eq_of_fkey_eq ?_ h0).symm
    rw [fkey_raisedGeneric h]
    omega

theorem loweredGeneric_at_max {s : State} (h : RegistersLegal s) (hs : feq s.speed (fneg s.maxSpeed) = true) :
    loweredGeneric params s = fneg s.maxSpeed := by
  obtain ⟨-, -, hkey⟩ := feq_iff.mp hs
  obtain ⟨hle, hrest⟩ := loweredFree_le_speed h
  rw [fkey_fneg] at hkey
  by_cases h0 : fkey s.maxSpeed = 0
  · rw [loweredGeneric_eq, if_pos]
    exact flt_iff.mpr ⟨isNaN_loweredFree h, (isNaN_fneg _).trans (isNaN_maxSpeed h), by rw [fkey_fneg]; omega⟩
  · refine (eq_of_fkey_eq ?_ ?_).symm
    · rw [fkey_fneg, fkey_loweredGeneric h]
      omega
    · rw [fkey_fneg]
      omega

/-- Settles O22: the speed before lies on the clamp, and the unclamped result not inside it. -/
theorem fastPathAgreesWithGenericPath : Obligations.FastPathAgreesWithGenericPath :=
  fun _ h => ⟨raisedGeneric_at_max h, loweredGeneric_at_max h⟩

/-! ### The profile's three branches -/

/-- The signed square lies below the envelope (R124). -/
abbrev BelowEnvelope (s : State) : Prop :=
  flt (signedSquare params s.speed) (envelope params s.distance s.accel) = true

/-- The signed square lies above the envelope (R125). -/
abbrev AboveEnvelope (s : State) : Prop :=
  flt (envelope params s.distance s.accel) (signedSquare params s.speed) = true

theorem desiredSpeed_at_target {s : State} (h : s.curPos = s.tgtPos) : desiredSpeed params s = plusZero := by
  have hd : s.distance = 0#32 := by rw [State.distance, h, BitVec.sub_self]
  exact if_pos hd

theorem desiredSpeed_of_below {s : State} (h : RegistersLegal s) (hd : s.distance ≠ 0#32)
    (hlt : BelowEnvelope s) :
    desiredSpeed params s = raisedGeneric params s := by
  rw [desiredSpeed, if_neg hd, if_pos hlt, raisedSpeed]
  split
  · next hs => exact (raisedGeneric_at_max h hs).symm
  · rfl

theorem desiredSpeed_of_above {s : State} (h : RegistersLegal s) (hd : s.distance ≠ 0#32)
    (hlt : AboveEnvelope s) :
    desiredSpeed params s = loweredGeneric params s := by
  have hnot : ¬ BelowEnvelope s := by
    obtain ⟨-, -, hkey⟩ := flt_iff.mp hlt
    intro h'
    obtain ⟨-, -, hkey'⟩ := flt_iff.mp h'
    omega
  rw [desiredSpeed, if_neg hd, if_neg hnot, if_pos hlt, loweredSpeed]
  split
  · next hs => exact (loweredGeneric_at_max h hs).symm
  · rfl

theorem desiredSpeed_of_equal {s : State} (hd : s.distance ≠ 0#32)
    (h1 : ¬ BelowEnvelope s)
    (h2 : ¬ AboveEnvelope s) :
    desiredSpeed params s = s.speed := by
  rw [desiredSpeed, if_neg hd, if_neg h1, if_neg h2]

/-- What the profile yields away from the target, on which side of the envelope (R124 to R126). -/
theorem desiredSpeed_cases {s : State} (h : RegistersLegal s) (hd : s.distance ≠ 0#32) :
    (BelowEnvelope s ∧
      desiredSpeed params s = raisedGeneric params s) ∨
    (AboveEnvelope s ∧
      desiredSpeed params s = loweredGeneric params s) ∨
    (¬ BelowEnvelope s ∧
      ¬ AboveEnvelope s ∧
      desiredSpeed params s = s.speed) := by
  by_cases h1 : BelowEnvelope s
  · exact .inl ⟨h1, desiredSpeed_of_below h hd h1⟩
  by_cases h2 : AboveEnvelope s
  · exact .inr (.inl ⟨h2, desiredSpeed_of_above h hd h2⟩)
  · exact .inr (.inr ⟨h1, h2, desiredSpeed_of_equal hd h1 h2⟩)

theorem distance_ne_zero {s : State} (h : s.curPos ≠ s.tgtPos) : s.distance ≠ 0#32 := sub_ne_zero.mpr h.symm

theorem speed_le_raisedGeneric {s : State} (h : RegistersLegal s) :
    fkey s.speed ≤ fkey (raisedGeneric params s) := by
  rw [fkey_raisedGeneric h]
  exact le_min (fkey_speed_within h).2 (speed_le_raisedFree h).1

theorem loweredGeneric_le_speed {s : State} (h : RegistersLegal s) :
    fkey (loweredGeneric params s) ≤ fkey s.speed := by
  rw [fkey_loweredGeneric h]
  exact max_le (fkey_speed_within h).1 (loweredFree_le_speed h).1

theorem specEnvelope_eq (s : State) : SpecEnvelope s = envelope params s.distance s.accel := by
  unfold SpecEnvelope envelope
  rfl

theorem specSquare_eq (s : State) : SpecSquare s = signedSquare params s.speed := by
  unfold SpecSquare signedSquare
  rfl

theorem specRaised_eq (s : State) : SpecRaised s = raisedGeneric params s := rfl

theorem specLowered_eq (s : State) : SpecLowered s = loweredGeneric params s := rfl

/-- Settles O21: the branch by the side of the envelope, its fast path by R128, its direction by the sign of the
change. -/
theorem desiredSpeedFollowsTheSixSteps : Obligations.DesiredSpeedFollowsTheSixSteps := by
  refine ⟨fun s => desiredSpeed_at_target, fun s h hne => ?_⟩
  have hd := distance_ne_zero hne
  have hnan := isNaN_desiredSpeed_of_legal h
  rw [specEnvelope_eq, specSquare_eq, specRaised_eq, specLowered_eq]
  refine ⟨fun hlt => ?_, fun hlt => ?_, fun h1 h2 => ?_⟩
  · have heq := desiredSpeed_of_below h hd hlt
    exact ⟨heq, fle_iff.mpr ⟨isNaN_speed h, hnan, heq ▸ speed_le_raisedGeneric h⟩⟩
  · have heq := desiredSpeed_of_above h hd hlt
    exact ⟨heq, fle_iff.mpr ⟨hnan, isNaN_speed h, heq ▸ loweredGeneric_le_speed h⟩⟩
  · exact desiredSpeed_of_equal hd (Bool.eq_false_iff.mp h1) (Bool.eq_false_iff.mp h2)

theorem fkey_desiredSpeed_within {s : State} (h : RegistersLegal s) :
    -fkey s.maxSpeed ≤ fkey (desiredSpeed params s) ∧ fkey (desiredSpeed params s) ≤ fkey s.maxSpeed := by
  obtain ⟨hlo, hhi⟩ := fkey_speed_within h
  have hmax := fkey_maxSpeed_nonneg h
  by_cases hne : s.curPos = s.tgtPos
  · rw [desiredSpeed_at_target hne, fkey_plusZero]
    omega
  rcases desiredSpeed_cases h (distance_ne_zero hne) with ⟨-, e⟩ | ⟨-, e⟩ | ⟨-, -, e⟩ <;> rw [e]
  · have := speed_le_raisedGeneric h
    rw [fkey_raisedGeneric h] at this ⊢
    omega
  · have := loweredGeneric_le_speed h
    rw [fkey_loweredGeneric h] at this ⊢
    omega
  · exact ⟨hlo, hhi⟩

/-- Settles O20: each branch stays between the speed before it and its clamp. -/
theorem desiredSpeedStaysInRange : Obligations.DesiredSpeedStaysInRange := by
  intro s h
  obtain ⟨hlo, hhi⟩ := fkey_desiredSpeed_within h
  have hnan := isNaN_desiredSpeed_of_legal h
  have hm := isNaN_maxSpeed h
  exact ⟨hnan, fle_iff.mpr ⟨(isNaN_fneg _).trans hm, hnan, (fkey_fneg _).symm ▸ hlo⟩, fle_iff.mpr ⟨hnan, hm, hhi⟩⟩

/-! ### The two quantities compared -/

/-- The magnitude code of the signed square (R123). -/
def squareCode (v : F32) : Nat := roundUnits (units (fmag v) * units (fmag v)) (2 ^ 149)

theorem isNaN_signedSquare {v : F32} (hv : isFinite v = true) : isNaN (signedSquare params v) = false := by
  have hsq : isNaN (ieeeMul v v) = false := by
    rw [ieeeMul_finite hv hv]
    exact isNaN_pack _ (roundUnits_le _ _)
  exact isNaN_ite (fun _ => hsq) fun _ => (isNaN_fneg _).trans hsq

theorem fkey_signedSquare {v : F32} (hv : isFinite v = true) :
    fkey (signedSquare params v) = (fkey v).sign * squareCode v := by
  have hsq : fkey (ieeeMul v v) = squareCode v := by
    rw [ieeeMul_finite hv hv, bne_self_eq_false, fkey_pack _ (roundUnits_lt _ _)]
    rfl
  have hunfold : signedSquare params v = if flt plusZero v then ieeeMul v v else fneg (ieeeMul v v) := rfl
  rw [hunfold, flt_of_not_nan isNaN_plusZero (isNaN_of_isFinite hv), fkey_plusZero]
  rcases lt_trichotomy (fkey v) 0 with h | h | h
  · simp [h.not_gt, hsq, Int.sign_eq_neg_one_of_neg h]
  · have hmag : fmag v = 0 := by simpa [isZero] using (fkey_eq_zero_iff v).mp h
    have hzero : squareCode v = 0 := by rw [squareCode, hmag, units_zero]; decide
    simp [h, hsq, hzero]
  · simp [h, hsq, Int.sign_eq_one_of_pos h]

/-- `fmul(2.0, cvt_f32(n))`. -/
def doubled (n : Nat) : F32 := ieeeMul two (cvtF32 n)

/-- The magnitude code of the envelope at the distance `n` (R122). -/
def envelopeCode (n : Nat) (accel : F32) : Nat :=
  roundUnits (units (fmag (doubled n)) * units (fmag accel)) (2 ^ 149)

/-- A distance is converted to a value from 1 to 2^31; `0x4F000000` is the code of 2^31. -/
theorem cvtF32_spec {n : Nat} (h1 : 1 ≤ n) (h2 : n ≤ 2 ^ 31) :
    fsign (cvtF32 n) = false ∧ oneCode ≤ fmag (cvtF32 n) ∧ fmag (cvtF32 n) ≤ 0x4F000000 := by
  have hmax : units 0x4F000000 = 2 ^ 31 * 2 ^ 149 := by decide +kernel
  rw [cvtF32, fsign_pack _ (roundUnits_lt _ _), fmag_pack _ (roundUnits_lt _ _)]
  refine ⟨rfl, le_roundUnits one_pos (by decide) ?_, roundUnits_le_code one_pos (by decide) ?_⟩
  · rw [units_oneCode]
    omega
  · rw [hmax]
    omega

/-- The doubled distance is positive and finite, and at least 2; `0x4F800000` is the code of 2^32. -/
theorem doubled_spec {n : Nat} (h1 : 1 ≤ n) (h2 : n ≤ 2 ^ 31) :
    isFinite (doubled n) = true ∧ fsign (doubled n) = false ∧ 2 ^ 150 ≤ units (fmag (doubled n)) := by
  obtain ⟨hsign, hlo, hhi⟩ := cvtF32_spec h1 h2
  have hmax : units 0x4F800000 = 2 * units 0x4F000000 := by decide +kernel
  have hfin : isFinite (cvtF32 n) = true := decide_eq_true (hhi.trans_lt (by decide))
  have hmul : doubled n = pack false (roundUnits (units (fmag two) * units (fmag (cvtF32 n))) (2 ^ 149)) := by
    rw [doubled, ieeeMul_finite (by decide) hfin, hsign]
    rfl
  have hloUnits := units_strictMono.monotone hlo
  have hhiUnits := units_strictMono.monotone hhi
  rw [units_oneCode] at hloUnits
  rw [hmul, isFinite, fmag_pack _ (roundUnits_lt _ _), fsign_pack _ (roundUnits_lt _ _), units_two]
  have htop : roundUnits (2 ^ 150 * units (fmag (cvtF32 n))) (2 ^ 149) ≤ 0x4F800000 := by
    refine roundUnits_le_code (by decide) (by decide) ?_
    rw [hmax]
    omega
  have hbottom : fmag two ≤ roundUnits (2 ^ 150 * units (fmag (cvtF32 n))) (2 ^ 149) := by
    refine le_roundUnits (by decide) (by decide) ?_
    rw [units_two]
    omega
  exact ⟨decide_eq_true (htop.trans_lt (by decide)), rfl, units_two ▸ units_strictMono.monotone hbottom⟩

theorem natAbs_distance_bounds {d : S32} (hd : d ≠ 0#32) : 1 ≤ d.toInt.natAbs ∧ d.toInt.natAbs ≤ 2 ^ 31 := by
  have hlo := BitVec.le_toInt d
  have hhi := BitVec.toInt_lt (x := d)
  have hne : d.toInt ≠ 0 := fun h => hd (BitVec.eq_of_toInt_eq h)
  omega

theorem envelope_eq {s : State} (h : RegistersLegal s) {d : S32} (hd : d ≠ 0#32) :
    envelope params d s.accel =
      if 0 < d.toInt then pack false (envelopeCode d.toInt.natAbs s.accel)
      else fneg (pack false (envelopeCode d.toInt.natAbs s.accel)) := by
  obtain ⟨h1, h2⟩ := natAbs_distance_bounds hd
  obtain ⟨hfin, hsign, -⟩ := doubled_spec h1 h2
  have hmul : ieeeMul (doubled d.toInt.natAbs) s.accel = pack false (envelopeCode d.toInt.natAbs s.accel) := by
    rw [ieeeMul_finite hfin h.accel_finite, hsign, fsign_of_pos h.accel_pos]
    rfl
  rw [← hmul]
  rfl

theorem isNaN_envelope {s : State} (h : RegistersLegal s) {d : S32} (hd : d ≠ 0#32) :
    isNaN (envelope params d s.accel) = false := by
  have hmag : isNaN (pack false (envelopeCode d.toInt.natAbs s.accel)) = false := isNaN_pack _ (roundUnits_le _ _)
  rw [envelope_eq h hd]
  exact isNaN_ite (fun _ => hmag) fun _ => (isNaN_fneg _).trans hmag

theorem fkey_envelope {s : State} (h : RegistersLegal s) {d : S32} (hd : d ≠ 0#32) :
    fkey (envelope params d s.accel) = d.toInt.sign * envelopeCode d.toInt.natAbs s.accel := by
  have hne : d.toInt ≠ 0 := fun h => hd (BitVec.eq_of_toInt_eq h)
  have hkey : fkey (pack false (envelopeCode d.toInt.natAbs s.accel)) = envelopeCode d.toInt.natAbs s.accel :=
    fkey_pack _ (roundUnits_lt _ _)
  rw [envelope_eq h hd]
  rcases lt_or_gt_of_ne hne with hneg | hpos
  · rw [if_neg hneg.not_gt, fkey_fneg, hkey, Int.sign_eq_neg_one_of_neg hneg]
    ring
  · rw [if_pos hpos, hkey, Int.sign_eq_one_of_pos hpos, one_mul]

/-! ### The mirror -/

theorem fkey_signedSquare_mirror {s : State} (h : RegistersLegal s) :
    fkey (signedSquare params (mirror s).speed) = -fkey (signedSquare params s.speed) := by
  have hfin := speed_finite_of_legal h
  have hcode : squareCode (mirror s).speed = squareCode s.speed := by
    rw [squareCode, show fmag (mirror s).speed = fmag s.speed from fmag_fneg _]
    rfl
  have hkey : fkey (mirror s).speed = -fkey s.speed := fkey_fneg _
  rw [fkey_signedSquare hfin, fkey_signedSquare (speed_finite_of_legal (legal_mirror h)), hcode, hkey, Int.sign_neg]
  ring

theorem fkey_envelope_mirror {s : State} (h : RegistersLegal s) (hd : s.distance ≠ 0#32)
    (hmin : s.distance ≠ 0x80000000#32) :
    fkey (envelope params (mirror s).distance (mirror s).accel) = -fkey (envelope params s.distance s.accel) := by
  have htoInt : (-s.distance).toInt = -s.distance.toInt := BitVec.toInt_neg_of_ne_intMin hmin
  have hd' : -s.distance ≠ 0#32 := neg_ne_zero.mpr hd
  rw [distance_mirror, show (mirror s).accel = s.accel from rfl, fkey_envelope h hd, fkey_envelope h hd', htoInt,
    Int.sign_neg, Int.natAbs_neg]
  ring

/-- The mirrored state lies on the other side of its envelope. -/
theorem sides_mirror {s : State} (h : RegistersLegal s) (hd : s.distance ≠ 0#32)
    (hmin : s.distance ≠ 0x80000000#32) :
    (BelowEnvelope (mirror s) ↔ AboveEnvelope s) ∧ (AboveEnvelope (mirror s) ↔ BelowEnvelope s) := by
  have hd' : (mirror s).distance ≠ 0#32 := distance_mirror s ▸ neg_ne_zero.mpr hd
  have hsq := isNaN_signedSquare (speed_finite_of_legal h)
  have hsq' := isNaN_signedSquare (speed_finite_of_legal (legal_mirror h))
  have henv := isNaN_envelope h hd
  have henv' := isNaN_envelope (legal_mirror h) hd'
  simp only [BelowEnvelope, AboveEnvelope, flt_of_not_nan, hsq, hsq', henv, henv', fkey_signedSquare_mirror h,
    fkey_envelope_mirror h hd hmin, decide_eq_true_eq, neg_lt_neg_iff, and_self]

/-- R135, by keys: away from the target, raising and lowering change places. -/
theorem fkey_desiredSpeed_mirror {s : State} (h : RegistersLegal s) (hmin : s.distance ≠ 0x80000000#32) :
    fkey (desiredSpeed params (mirror s)) = -fkey (desiredSpeed params s) := by
  have hm := legal_mirror h
  by_cases hne : s.curPos = s.tgtPos
  · rw [desiredSpeed_at_target hne, desiredSpeed_at_target (s := mirror s) (congrArg (- ·) hne)]
    rfl
  have hd := distance_ne_zero hne
  have hd' : (mirror s).distance ≠ 0#32 := distance_mirror s ▸ neg_ne_zero.mpr hd
  obtain ⟨hbelow, habove⟩ := sides_mirror h hd hmin
  rcases desiredSpeed_cases h hd with ⟨hlt, e⟩ | ⟨hlt, e⟩ | ⟨h1, h2, e⟩ <;> rw [e]
  · rw [desiredSpeed_of_above hm hd' (habove.mpr hlt), fkey_loweredGeneric_eq_mirror hm, mirror_mirror]
  · rw [desiredSpeed_of_below hm hd' (hbelow.mpr hlt), fkey_loweredGeneric_eq_mirror h, neg_neg]
  · rw [desiredSpeed_of_equal hd' (hbelow.not.mpr h2) (habove.not.mpr h1)]
    exact fkey_fneg _

/-- Settles O23: the mirrored state is legal, and its result has the negated key. -/
theorem profileIsSymmetric : Obligations.ProfileIsSymmetric := by
  intro s h hmin
  refine feq_iff.mpr ⟨isNaN_desiredSpeed_of_legal (legal_mirror h), ?_, ?_⟩
  · exact (isNaN_fneg _).trans (isNaN_desiredSpeed_of_legal h)
  · rw [fkey_fneg, fkey_desiredSpeed_mirror h hmin]

end Sys2Proof.Machine

/-! Proofs: a motion toward its target (spec/40_profile.md R136; spec/70_reset_and_hazards.md R310). The recomputation
keeps the direction while there is a distance, since one change down is smaller than the speed where the speed lies above
the envelope; the other direction is the mirror of this one (R135). -/

namespace Sys2Proof.Machine

open Sys2Proof.Config Sys2Proof.Claim

/-! ### The recomputed speed keeps its direction -/

theorem fkey_pos_iff {v : F32} (hv : isNaN v = false) : flt plusZero v = true ↔ 0 < fkey v := by
  rw [flt_of_not_nan isNaN_plusZero hv, fkey_plusZero, decide_eq_true_eq]

theorem fkey_neg_iff {v : F32} (hv : isNaN v = false) : flt v plusZero = true ↔ fkey v < 0 := by
  rw [flt_of_not_nan hv isNaN_plusZero, fkey_plusZero, decide_eq_true_eq]

/-- Where one change is not smaller than the speed, the squared speed is at most `2.0 × ACCEL`, so it is not above the
envelope. `c` is the code of the speed, `a` and `m` the units of `ACCEL` and of the doubled distance. -/
theorem square_le_envelope {c a m : Nat} (hc : 0 < c) (hmax : c ≤ infMag) (ha : 0 < a) (hm : 2 ^ 150 ≤ m)
    (h : c ≤ roundUnits (a * 2 ^ 149) (units c)) :
    roundUnits (units c * units c) (2 ^ 149) ≤ roundUnits (m * a) (2 ^ 149) := by
  have henv : 2 ^ 150 * a ≤ m * a := Nat.mul_le_mul_right a hm
  have hsquare : units c * units c ≤ 2 ^ 150 * a := by
    rcases Nat.lt_or_ge 1 c with h1 | h1
    · have hquotient : units (c - 1) * units c < a * 2 ^ 149 := by
        by_contra hle
        have := roundUnits_le_code (units_pos hc) (by omega : c - 1 ≤ infMag) (Nat.not_lt.mp hle)
        omega
      have hdouble : units c ≤ 2 * units (c - 1) := by
        have := units_succ_le_double (c := c - 1) (by omega)
        rwa [Nat.sub_add_cancel hc] at this
      have : units c * units c ≤ 2 * units (c - 1) * units c := Nat.mul_le_mul_right _ hdouble
      rw [Nat.mul_assoc] at this
      omega
    · obtain rfl : c = 1 := by omega
      have hone : units 1 * units 1 = 1 := by decide
      omega
  exact roundUnits_mono (by decide) (by decide) (Nat.mul_le_mul_right _ (hsquare.trans henv))

/-- A speed toward the target that lies above the envelope is larger than one change of it. -/
theorem speedChange_lt_speed {s : State} (h : RegistersLegal s) (hd : 0 < s.distance.toInt)
    (hv : flt plusZero s.speed = true)
    (habove : AboveEnvelope s) :
    fkey (speedChange params s) < fkey s.speed := by
  have hd0 : s.distance ≠ 0#32 := fun h0 => by simp [h0] at hd
  have hfin := speed_finite_of_legal h
  have hkey := fkey_of_fsign (fsign_of_pos hv)
  have hspeed := (fkey_pos_iff (isNaN_speed h)).mp hv
  have hpos : 0 < fmag s.speed := by omega
  have hmax : fmag s.speed < infMag := by simpa [isFinite] using hfin
  obtain ⟨-, -, hcodes⟩ := flt_iff.mp habove
  rw [fkey_envelope h hd0, fkey_signedSquare hfin, Int.sign_eq_one_of_pos hd, Int.sign_eq_one_of_pos hspeed,
    one_mul, one_mul, Int.ofNat_lt] at hcodes
  have hz : isZero s.speed = false := by simpa [isZero] using hpos.ne'
  have hchange : speedChange params s = _ := fabs_ieeeDiv_finite h.accel_finite hfin hz
  obtain ⟨h1, h2⟩ := natAbs_distance_bounds hd0
  obtain ⟨-, -, hdoubled⟩ := doubled_spec h1 h2
  rw [hchange, fkey_pack _ (roundUnits_lt _ _), hkey]
  by_contra hle
  have hquotient : fmag s.speed ≤ roundUnits (units (fmag s.accel) * 2 ^ 149) (units (fmag s.speed)) := by
    simpa using hle
  have := square_le_envelope hpos hmax.le (units_pos (fmag_accel_pos h)) hdoubled hquotient
  exact absurd hcodes this.not_gt

/-- R136: the profile keeps a positive speed positive while the target is ahead. -/
theorem fkey_desiredSpeed_pos {s : State} (h : RegistersLegal s) (hd : 0 < s.distance.toInt)
    (hv : flt plusZero s.speed = true) : 0 < fkey (desiredSpeed params s) := by
  have hd0 : s.distance ≠ 0#32 := fun h0 => by simp [h0] at hd
  have hspeed := (fkey_pos_iff (isNaN_speed h)).mp hv
  rcases desiredSpeed_cases h hd0 with ⟨-, e⟩ | ⟨habove, e⟩ | ⟨-, -, e⟩ <;> rw [e]
  · exact hspeed.trans_le (speed_le_raisedGeneric h)
  · have hmoving : ¬ feq s.speed plusZero = true := fun h0 => by
      obtain ⟨-, -, hkey⟩ := feq_iff.mp h0
      rw [fkey_plusZero] at hkey
      omega
    have hfin := speed_finite_of_legal h
    have hlt := speedChange_lt_speed h hd hv habove
    have hchange : isFinite (speedChange params s) = true := by
      have hkey : fkey (speedChange params s) = fmag (speedChange params s) := fkey_of_fsign (fsign_fabs _)
      have hmax := ((isFinite_iff_fkey _).mp hfin).2
      rw [isFinite, decide_eq_true_eq]
      omega
    rw [fkey_loweredGeneric h, loweredFree, if_neg hmoving]
    exact lt_max_of_lt_right (fkey_ieeeSub_pos hfin hchange hlt)
  · exact hspeed

theorem fkey_desiredSpeed_neg {s : State} (h : RegistersLegal s) (hd : s.distance.toInt < 0)
    (hmin : s.distance ≠ 0x80000000#32) (hv : flt s.speed plusZero = true) : fkey (desiredSpeed params s) < 0 := by
  have hdistance : (mirror s).distance.toInt = -s.distance.toInt := by
    rw [distance_mirror]
    exact BitVec.toInt_neg_of_ne_intMin hmin
  have hspeed : flt plusZero (mirror s).speed = true := by
    have hkey := (fkey_neg_iff (isNaN_speed h)).mp hv
    have hneg : fkey (mirror s).speed = -fkey s.speed := fkey_fneg _
    exact (fkey_pos_iff (isNaN_speed (legal_mirror h))).mpr (by omega)
  have := fkey_desiredSpeed_pos (legal_mirror h) (by omega) hspeed
  rw [fkey_desiredSpeed_mirror h hmin] at this
  omega

/-! ### The speed written -/

theorem clampSpeed_of_within {m v : F32} (hlo : -fkey m ≤ fkey v) (hhi : fkey v ≤ fkey m) : clampSpeed m v = v := by
  have h1 : flt m v = false := Bool.eq_false_iff.mpr fun h => by
    obtain ⟨-, -, hkey⟩ := flt_iff.mp h
    omega
  have h2 : flt v (fneg m) = false := Bool.eq_false_iff.mpr fun h => by
    obtain ⟨-, -, hkey⟩ := flt_iff.mp h
    rw [fkey_fneg] at hkey
    omega
  simp [clampSpeed, h1, h2]

/-- With legal registers the recomputation writes the profile's value, unless the speed has that value already. -/
theorem computeNewSpeed_speed {s : State} (h : RegistersLegal s) :
    (computeNewSpeed params s).speed = desiredSpeed params s ∨
      (feq (desiredSpeed params s) s.speed = true ∧ (computeNewSpeed params s).speed = s.speed) := by
  rcases applySpeed_cases params (desiredSpeed params s) s with ⟨hsame, e⟩ | ⟨-, e⟩ <;> rw [computeNewSpeed, e]
  · simp only [speedUnchanged, Bool.and_eq_true] at hsame
    obtain ⟨⟨hfeq, -⟩, -⟩ := hsame
    exact .inr ⟨hfeq, rfl⟩
  · obtain ⟨hlo, hhi⟩ := fkey_desiredSpeed_within h
    exact .inl (clampSpeed_of_within hlo hhi)

theorem fkey_computeNewSpeed_speed {s : State} (h : RegistersLegal s) :
    isNaN (computeNewSpeed params s).speed = false ∧
      fkey (computeNewSpeed params s).speed = fkey (desiredSpeed params s) := by
  rcases computeNewSpeed_speed h with e | ⟨hfeq, e⟩ <;> rw [e]
  · exact ⟨isNaN_desiredSpeed_of_legal h, rfl⟩
  · obtain ⟨-, hnan, hkey⟩ := feq_iff.mp hfeq
    exact ⟨hnan, hkey.symm⟩

/-- R121: a motor that arrives with a speed gets the speed `+0.0`. -/
theorem computeNewSpeed_speed_at_target {s : State} (h : RegistersLegal s) (hp : s.curPos = s.tgtPos)
    (hv : fkey s.speed ≠ 0) : (computeNewSpeed params s).speed = 0x00000000#32 := by
  have hdesired := desiredSpeed_at_target hp
  rcases computeNewSpeed_speed h with e | ⟨hfeq, -⟩
  · exact e.trans hdesired
  · obtain ⟨-, -, hkey⟩ := feq_iff.mp hfeq
    rw [hdesired, fkey_plusZero] at hkey
    exact absurd hkey.symm hv

/-! ### One `RUN` -/

/-- What `RUN` can leave away from the target: one sample taken, or a step, after which the recomputation has written the
value the profile yields at the new distance, and `+0.0` at the target. -/
theorem exec_run_cases {s t : State} (hs : Inv s) (hne : s.curPos ≠ s.tgtPos) (hv : fkey s.speed ≠ 0)
    (h : exec .run s = .next t) :
    (t.curPos = s.curPos ∧ t.tgtPos = s.tgtPos ∧ t.speed = s.speed) ∨
    (t.curPos = steppedPos s ∧ t.tgtPos = s.tgtPos ∧ (t.curPos = t.tgtPos → t.speed = 0x00000000#32) ∧
      isNaN t.speed = false ∧
      ∃ u, RegistersLegal u ∧ u.distance = t.distance ∧ u.speed = s.speed ∧
        fkey t.speed = fkey (desiredSpeed params u)) := by
  cases performed_of_exec h with
  | readBack hi v => exact absurd hi (by decide)
  | atTarget _ hp => exact absurd hp hne
  | notDue _ _ b => exact .inl ⟨rfl, rfl, rfl⟩
  | stepped hi _ => exact absurd hi (by decide)
  | @ran u hu =>
    have hlegal : RegistersLegal u := (inv_runSpeedBody hs hu).legal
    obtain ⟨hcur, htgt, hspeed⟩ : u.curPos = steppedPos s ∧ u.tgtPos = s.tgtPos ∧ u.speed = s.speed := by
      obtain ⟨v, w, l, rfl, -⟩ := runSpeedBody_stepped hu
      exact ⟨rfl, rfl, rfl⟩
    obtain ⟨hnan, hkey⟩ := fkey_computeNewSpeed_speed hlegal
    simp only [State.distance, respond_curPos, respond_tgtPos, respond_speed, computeNewSpeed_curPos,
      computeNewSpeed_tgtPos]
    exact .inr ⟨hcur, htgt, fun hp => computeNewSpeed_speed_at_target hlegal hp (hspeed ▸ hv), hnan, u, hlegal, rfl,
      hspeed, hkey⟩

theorem distance_eq_zero_iff (s : State) : s.distance.toInt = 0 ↔ s.curPos = s.tgtPos := by
  rw [← BitVec.toInt_zero (w := 32), BitVec.toInt_inj]
  exact sub_eq_zero.trans eq_comm

theorem toInt_sub_one {d : S32} (h : 0 < d.toInt) : (d - 1#32).toInt = d.toInt - 1 := by
  simp only [BitVec.toInt_eq_toNat_cond] at *
  bv_omega

theorem toInt_add_one {d : S32} (h : d.toInt < 0) : (d + 1#32).toInt = d.toInt + 1 := by
  simp only [BitVec.toInt_eq_toNat_cond] at *
  bv_omega

/-- One position forward is one step less to go. -/
theorem distance_forward {s t : State} (hcur : t.curPos = s.curPos + 1#32) (htgt : t.tgtPos = s.tgtPos)
    (hd : 0 < s.distance.toInt) : t.distance.toInt = s.distance.toInt - 1 := by
  rw [State.distance, hcur, htgt, sub_add_eq_sub_sub]
  exact toInt_sub_one hd

theorem distance_backward {s t : State} (hcur : t.curPos = s.curPos - 1#32) (htgt : t.tgtPos = s.tgtPos)
    (hd : s.distance.toInt < 0) : t.distance.toInt = s.distance.toInt + 1 := by
  rw [State.distance, hcur, htgt, ← sub_add]
  exact toInt_add_one hd

theorem steppedPos_forward {s : State} (hv : flt plusZero s.speed = true) : steppedPos s = s.curPos + 1#32 := if_pos hv

theorem steppedPos_backward {s : State} (hv : flt s.speed plusZero = true) : steppedPos s = s.curPos - 1#32 := by
  obtain ⟨hnan, -, hkey⟩ := flt_iff.mp hv
  rw [fkey_plusZero] at hkey
  rw [steppedPos, if_neg (by rw [fkey_pos_iff hnan]; omega), if_pos hv]

/-- Settles O26: a step leaves one less to go, and the profile's value at what is left keeps the direction. -/
theorem runNeverPassesTheTarget : Obligations.RunNeverPassesTheTarget := by
  refine ⟨fun s t hs hd hv h => ?_, fun s t hs hd hv h => ?_⟩
  all_goals
    have hne : s.curPos ≠ s.tgtPos := fun hp => by rw [(distance_eq_zero_iff s).mpr hp] at hd; omega
    have hnan := isNaN_speed hs.legal
  · have hkey := (fkey_pos_iff hnan).mp hv
    rcases exec_run_cases hs hne hkey.ne' h with
      ⟨hcur, htgt, hspeed⟩ | ⟨hcur, htgt, hzero, hnan', u, hu, hud, hus, hut⟩
    · rw [State.distance, hcur, htgt, hspeed]
      exact ⟨rfl, .inl rfl, hd.le, fun hp => absurd hp hne, fun _ => hv⟩
    · rw [steppedPos_forward hv] at hcur
      have hdist := distance_forward hcur htgt hd
      refine ⟨htgt, .inr hcur, by omega, hzero, fun hp => (fkey_pos_iff hnan').mpr ?_⟩
      have hleft := (distance_eq_zero_iff t).not.mpr hp
      rw [hut]
      exact fkey_desiredSpeed_pos hu (by rw [hud]; omega) (hus ▸ hv)
  · have hkey := (fkey_neg_iff hnan).mp hv
    rcases exec_run_cases hs hne hkey.ne h with
      ⟨hcur, htgt, hspeed⟩ | ⟨hcur, htgt, hzero, hnan', u, hu, hud, hus, hut⟩
    · rw [State.distance, hcur, htgt, hspeed]
      exact ⟨rfl, .inl rfl, hd.le, fun hp => absurd hp hne, fun _ => hv⟩
    · rw [steppedPos_backward hv] at hcur
      have hdist := distance_backward hcur htgt hd
      refine ⟨htgt, .inr hcur, by omega, hzero, fun hp => (fkey_neg_iff hnan').mpr ?_⟩
      have hleft := (distance_eq_zero_iff t).not.mpr hp
      have hmin : u.distance ≠ 0x80000000#32 := fun h0 => by
        have hlow : u.distance.toInt = -2 ^ 31 := by rw [h0]; decide
        have := BitVec.le_toInt s.distance
        rw [hud] at hlow
        omega
      rw [hut]
      exact fkey_desiredSpeed_neg hu (by rw [hud]; omega) hmin (hus ▸ hv)

end Sys2Proof.Machine

/-! Proofs: a polled motion toward its target reaches it (spec/40_profile.md R136; spec/70_reset_and_hazards.md R310).
Each `RUN` frame is given the sample at which its step falls due, so each takes one step, and the distance counts
them. -/

namespace Sys2Proof.Machine

open Sys2Proof.Config Sys2Proof.Claim

/-! ### A due `RUN` steps -/

/-- A step due away from the target is taken, and leaves the limit, the status and the sequencer. -/
theorem exec_run_of_due {s : State} (hne : s.curPos ≠ s.tgtPos) (hdue : dueNow s = true)
    (hl : legalTopology s.topology = true) :
    ∃ t, exec .run s = .next t ∧ t.curPos = steppedPos s ∧ t.maxSpeed = s.maxSpeed ∧ t.status = s.status ∧
      t.seq = s.seq := by
  rcases runBody_cases params s with ⟨h, -⟩ | ⟨-, h, -⟩ | ⟨-, -, -, u, -, ⟨v, w, l, rfl⟩, e⟩ | ⟨-, -, h, -⟩
  · exact absurd h hne
  · exact absurd hdue (by simp [h])
  · exact ⟨_, congrArg respondBool e, computeNewSpeed_curPos params _, computeNewSpeed_maxSpeed params _,
      computeNewSpeed_status params _, computeNewSpeed_seq params _⟩
  · exact absurd hl (by simp [h])

/-- `RUN` neither reads nor writes the host's moves. -/
theorem exec_run_withHost {s t : State} (moves : List HostMove) (h : exec .run s = .next t) :
    exec .run (withHost moves s) = .next (withHost moves t) := by
  obtain ⟨b, u, hu, rfl⟩ := respondBool_eq_next h
  have hbody : runBody params (withHost moves s) = .ok (b, withHost moves u) := by rw [runBody_withHost, hu]; rfl
  exact congrArg respondBool hbody

/-- A speed that is not 0 and at most 10^6 has an interval. -/
theorem interval_ne_zero {s : State} (hs : Inv s) (hmax : fle s.maxSpeed million = true) (hv : fkey s.speed ≠ 0) :
    s.stepInterval ≠ 0#32 := by
  have hnan := isNaN_speed hs.legal
  obtain ⟨hlo, hhi⟩ := fkey_speed_within hs.legal
  obtain ⟨-, -, hslow⟩ := fle_iff.mp hmax
  rw [hs.interval]
  intro h
  rcases (intervalIsZeroExactlyOutsideTheRange _ hnan).mp h with h0 | hfast
  · rw [feq_plusZero_iff hnan, ← fkey_eq_zero_iff] at h0
    exact hv h0
  · obtain ⟨-, -, hkey⟩ := flt_iff.mp hfast
    rw [fkey_fabs] at hkey
    have hmag : (fmag s.speed : Int) = fkey s.speed ∨ (fmag s.speed : Int) = -fkey s.speed := by
      rw [fkey]
      split <;> omega
    omega

/-! ### Polling -/

/-- The host's `RUN` frame with its annotated sample. -/
def runFrameAt (now : U32) : HostMove := .frame 0x0000000000000010#64 [now]

/-- The motion points toward a target it has not reached. -/
def Toward (s : State) : Prop :=
  (0 < s.distance.toInt ∧ flt plusZero s.speed = true) ∨ (s.distance.toInt < 0 ∧ flt s.speed plusZero = true)

/-- An open port of an unfaulted core whose maximum speed always has an interval. -/
structure Pollable (s : State) : Prop where
  inv : Inv s
  unfaulted : s.faulted = false
  idle : s.seq = .idle
  slow : fle s.maxSpeed million = true

/-- The same state with one sample at the clock. -/
def withSample (now : U32) (s : State) : State := { s with clockIn := [now] }

/-- The sample on which the next step falls due. -/
def dueSample (s : State) : U32 := s.lastStepTime + s.stepInterval

theorem dueNow_withSample_dueSample {s : State} (h : s.stepInterval ≠ 0#32) :
    dueNow (withSample (dueSample s) s) = true := by
  have helapsed : dueSample s - s.lastStepTime = s.stepInterval := add_sub_cancel_left _ _
  exact (dueNow_iff_Due _).mpr ⟨h, (congrArg BitVec.toNat helapsed).ge⟩

/-- At the target and at rest. -/
def Arrived (s : State) : Prop := s.curPos = s.tgtPos ∧ s.speed = 0x00000000#32 ∧ s.stepInterval = 0#32

theorem toward_moving {s : State} (hs : Inv s) (h : Toward s) : s.curPos ≠ s.tgtPos ∧ fkey s.speed ≠ 0 := by
  have hnan := isNaN_speed hs.legal
  rw [ne_eq, ← distance_eq_zero_iff]
  rcases h with ⟨hd, hv⟩ | ⟨hd, hv⟩
  · rw [fkey_pos_iff hnan] at hv
    omega
  · rw [fkey_neg_iff hnan] at hv
    omega

/-- A step toward the target leaves one less to go, and arrives at speed 0 or goes on. -/
theorem stepped_toward {s t : State} (hs : Inv s) (h : Toward s) (hrun : exec .run s = .next t)
    (hcur : t.curPos = steppedPos s) :
    t.tgtPos = s.tgtPos ∧ t.distance.toInt.natAbs + 1 = s.distance.toInt.natAbs ∧
      (t.curPos = t.tgtPos → t.speed = 0x00000000#32) ∧ (t.curPos ≠ t.tgtPos → Toward t) := by
  obtain ⟨hforward, hbackward⟩ := runNeverPassesTheTarget
  rw [ne_eq, ← distance_eq_zero_iff]
  rcases h with ⟨hd, hv⟩ | ⟨hd, hv⟩
  · obtain ⟨htgt, -, hleft, hzero, hkeeps⟩ := hforward s t hs hd hv hrun
    have hdist := distance_forward (hcur.trans (steppedPos_forward hv)) htgt hd
    simp only [ne_eq, ← distance_eq_zero_iff] at hzero hkeeps
    exact ⟨htgt, by omega, hzero, fun h0 => .inl ⟨by omega, hkeeps h0⟩⟩
  · obtain ⟨htgt, -, hleft, hzero, hkeeps⟩ := hbackward s t hs hd hv hrun
    have hdist := distance_backward (hcur.trans (steppedPos_backward hv)) htgt hd
    simp only [ne_eq, ← distance_eq_zero_iff] at hzero hkeeps
    exact ⟨htgt, by omega, hzero, fun h0 => .inr ⟨by omega, hkeeps h0⟩⟩

/-- A core with a motion toward its target has a sample on which a `RUN` frame takes it one step on. -/
theorem polled_step {s : State} (hp : Pollable s) (h : Toward s) :
    ∃ (now : U32) (t : State),
      (∀ rest, step (withHost (runFrameAt now :: rest) s) = .next (withHost rest t)) ∧
      t.tgtPos = s.tgtPos ∧ t.distance.toInt.natAbs + 1 = s.distance.toInt.natAbs ∧
      (Arrived t ∨ (Pollable t ∧ Toward t)) := by
  obtain ⟨hs, hf, hq, hmax⟩ := hp
  obtain ⟨hne, hv⟩ := toward_moving hs h
  have hdue := dueNow_withSample_dueSample (interval_ne_zero hs hmax hv)
  have hs' : Inv (withSample (dueSample s) s) := inv_congr hs rfl rfl
  have hl : legalTopology s.topology = true := by
    obtain ⟨-, htop, -⟩ := record_of_unfaulted hs hf
    simpa using htop
  obtain ⟨t, hrun, hcur, hmax', hstatus, hseq⟩ :=
    exec_run_of_due (s := withSample (dueSample s) s) hne hdue hl
  obtain ⟨htgt, hdist, hzero, hkeeps⟩ := stepped_toward hs' h hrun hcur
  have ht : Inv t := inv_exec hs' hq (fun hf' => nomatch hf.symm.trans hf') hrun
  refine ⟨dueSample s, t, fun rest => ?_, htgt, hdist, ?_⟩
  · have hstep := stepRunsTheDecodedCommand (withHost (runFrameAt (dueSample s) :: rest) s) _ _ rest .run rfl hq
      (by decide) (.inl hf)
    exact hstep.trans (exec_run_withHost rest hrun)
  · by_cases hat : t.curPos = t.tgtPos
    · refine .inl ⟨hat, hzero hat, ?_⟩
      rw [ht.interval, hzero hat]
      decide
    · exact .inr ⟨⟨ht, by rw [State.faulted, hstatus]; exact hf, hseq.trans hq, hmax' ▸ hmax⟩, hkeeps hat⟩

theorem run_succ_of_step {s t : State} (h : step s = .next t) (k : Nat) :
    Sys2Proof.core.run (k + 1) s = Sys2Proof.core.run k t := by
  have hstep : Sys2Proof.core.step s = .next t := h
  simp only [Host.Core.run, hstep]

/-- By induction on the distance: as many polls as there are steps to go bring the motion to its target. -/
theorem polled_run (n : Nat) {s : State} (hp : Pollable s) (h : Toward s) (hn : s.distance.toInt.natAbs = n) :
    ∃ (nows : List U32) (t : State), nows.length = n ∧
      Sys2Proof.core.run n (withHost (nows.map runFrameAt) s) = .next t ∧ t.tgtPos = s.tgtPos ∧ Arrived t := by
  induction n generalizing s with
  | zero =>
    have hd : s.distance.toInt = 0 := Int.natAbs_eq_zero.mp hn
    exact absurd ((distance_eq_zero_iff s).mp hd) (toward_moving hp.inv h).1
  | succ n ih =>
    obtain ⟨now, t, hstep, htgt, hdist, harrived | ⟨hp', h'⟩⟩ := polled_step hp h
    · obtain ⟨hat, hrest⟩ := harrived
      have hd : t.distance.toInt = 0 := (distance_eq_zero_iff t).mpr hat
      obtain rfl : n = 0 := by omega
      exact ⟨[now], withHost [] t, rfl, run_succ_of_step (hstep []) 0, htgt, hat, hrest⟩
    · obtain ⟨nows, u, hlen, hrun, htgt', harrived⟩ := ih hp' h' (by omega)
      exact ⟨now :: nows, u, congrArg (· + 1) hlen, (run_succ_of_step (hstep _) n).trans hrun, htgt'.trans htgt,
        harrived⟩

/-- Settles O27: each frame is given the sample at which its step falls due. -/
theorem polledMotionTowardTheTargetReachesIt : Obligations.PolledMotionTowardTheTargetReachesIt := by
  intro s hs hf hq hmax h
  obtain ⟨nows, t, hlen, hrun, htgt, hcur, hspeed, hint⟩ := polled_run _ ⟨hs, hf, hq, hmax⟩ h rfl
  exact ⟨nows, t, hlen, by rw [hlen]; exact hrun, hcur.trans htgt, htgt, hspeed, hint⟩

end Sys2Proof.Machine

/-! Proofs: a due step of each topology with the default tables and pin order (spec/41_timing_gate.md R165, R166;
spec/42_pattern.md R181 to R186): what `DRIVE_PINS` leaves on the pins and in the log, then the run commands that reach
it. -/

namespace Sys2Proof.Machine

open Sys2Proof.Config Sys2Proof.Claim

/-- Settles O28: modulo 2^32, the two cases of the gate are one comparison of the elapsed time. -/
theorem gateMeasuresElapsedTime : Obligations.GateMeasuresElapsedTime := stepDue_eq_elapsed

/-! ### The rows of the default tables -/

theorem getElem?_pat2 (pos : S32) :
    ∃ row, params.pat2[pos.toNat % 4]? = some row ∧ (row.p1, row.p2) = quadrature pos := by
  have h : pos.toNat % 4 < 4 := Nat.mod_lt _ (by decide)
  unfold quadrature
  generalize pos.toNat % 4 = n at h
  interval_cases n <;> exact ⟨_, rfl, rfl⟩

theorem getElem?_pat4 (pos : S32) : params.pat4[pos.toNat % 4]? = some (fullStep pos) := by
  have h : pos.toNat % 4 < 4 := Nat.mod_lt _ (by decide)
  unfold fullStep
  generalize pos.toNat % 4 = n at h
  interval_cases n <;> rfl

theorem getElem?_pat8 (pos : S32) : params.pat8[pos.toNat % 8]? = some (halfStep pos) := by
  have h : pos.toNat % 8 < 8 := Nat.mod_lt _ (by decide)
  unfold halfStep
  generalize pos.toNat % 8 = n at h
  interval_cases n <;> rfl

/-! ### `DRIVE_PINS` by topology -/

theorem pinOrderLegal_params : pinOrderLegal params.pinOrder = true := by decide

theorem drivePins_callback (P : Params) (s : State) (ht : s.topology = 0#4) :
    drivePins P s = .ok { s with log := s.log ++ [.strobe (if flt plusZero s.speed = true then .fwd else .bwd)] } := by
  rw [drivePins, if_pos ht, drive0]
  split <;> rfl

theorem drivePins_stepAndDirection (P : Params) (s : State) (ht : s.topology = 1#4) :
    drivePins P s = .ok { s with pin := { s.pin with p1 := false, p2 := flt plusZero s.speed },
                                 waits := s.waits + 1,
                                 log := s.log ++ pulse s (s.minPulseWidth.toNat + waitExcess s.source s.waits) } := by
  have hdrive : drivePins P s = .ok (drive1 s) := by simp [drivePins, ht]
  rw [hdrive]
  simp [drive1, pulse, pinWrite, wait, emit, setPin, pinsSet]

theorem drivePins_twoWire (s : State) (ht : s.topology = 2#4) :
    drivePins params s =
      .ok { s with pin := { s.pin with p1 := (quadrature s.curPos).1, p2 := (quadrature s.curPos).2 },
                   log := s.log ++ [.pin .p1 (quadrature s.curPos).1, .pin .p2 (quadrature s.curPos).2] } := by
  obtain ⟨row, hrow, hlevels⟩ := getElem?_pat2 s.curPos
  obtain ⟨row', hrow', hdrive⟩ := drivePins_topology2 pinOrderLegal_params s ht
  obtain rfl : row = row' := Option.some.inj (hrow.symm.trans hrow')
  rw [hdrive, ← hlevels]
  rfl

theorem drivePins_fullStep (s : State) (ht : s.topology = 4#4) :
    drivePins params s =
      .ok { s with pin := fullStep s.curPos, log := s.log ++ fourPinEvents (fullStep s.curPos) } := by
  obtain ⟨row, hrow, hdrive⟩ := drivePins_topology4 pinOrderLegal_params s ht
  obtain rfl : fullStep s.curPos = row := Option.some.inj ((getElem?_pat4 s.curPos).symm.trans hrow)
  exact hdrive

theorem drivePins_halfStep (s : State) (ht : s.topology = 8#4) :
    drivePins params s =
      .ok { s with pin := halfStep s.curPos, log := s.log ++ fourPinEvents (halfStep s.curPos) } := by
  obtain ⟨row, hrow, hdrive⟩ := drivePins_topology8 pinOrderLegal_params s ht
  obtain rfl : halfStep s.curPos = row := Option.some.inj ((getElem?_pat8 s.curPos).symm.trans hrow)
  exact hdrive

/-! ### The commands that step -/

/-- R222: away from the target, `RUN_SPEED_TO_POSITION` is `RUN_SPEED`. -/
theorem exec_runSpeedToPosition_of_ne {s : State} (h : s.curPos ≠ s.tgtPos) :
    exec .runSpeedToPosition s = exec .runSpeed s :=
  congrArg respondBool (if_neg h)

/-- A due step of either command drives the pins from `drivenFrom`, then writes the time of the step and responds 1. -/
theorem exec_dueStep {s u : State} (hd : Due s) (hm : Moving s) (hu : drivePins params (drivenFrom s) = .ok u) :
    exec .runSpeed s = .next (respond 1#32 (setLastStepTime (clockNow s) u)) ∧
    (s.curPos ≠ s.tgtPos →
      exec .runSpeedToPosition s = .next (respond 1#32 (setLastStepTime (clockNow s) u))) := by
  have hrun := (execWith_params .runSpeed s).symm.trans (execWith_runSpeed_of_Due hd hm hu)
  exact ⟨hrun, fun hne => (exec_runSpeedToPosition_of_ne hne).trans hrun⟩

/-- A due step whose `DRIVE_PINS` writes only pins and log. -/
theorem dueStep_steppedTo {s : State} (hd : Due s) (hm : Moving s) {v : Pins} {events : List Output}
    (hu : drivePins params (drivenFrom s) =
      .ok { drivenFrom s with pin := v, log := (drivenFrom s).log ++ events }) :
    ∃ t, exec .runSpeed s = .next t ∧ SteppedTo v events s t ∧
      (s.curPos ≠ s.tgtPos → exec .runSpeedToPosition s = .next t) := by
  obtain ⟨hrun, hto⟩ := exec_dueStep hd hm hu
  exact ⟨_, hrun, rfl, hto⟩

/-- Settles O33: `DRIVE_PINS` adds one strobe to the log. -/
theorem callbackStep : Obligations.CallbackStep :=
  fun s ht hd hm => dueStep_steppedTo hd hm (drivePins_callback params (drivenFrom s) ht)

/-- Settles O34: the excess over `MIN_PULSE_WIDTH` is the one drawn for this wait. -/
theorem stepAndDirectionStep : Obligations.StepAndDirectionStep := by
  intro s ht hd hm
  obtain ⟨hrun, hto⟩ := exec_dueStep hd hm (drivePins_stepAndDirection params (drivenFrom s) ht)
  exact ⟨_, waitExcess s.source s.waits, hrun, rfl, hto⟩

/-- Settles O35: the default `PAT2` at the new position is R183's row. -/
theorem twoWireStep : Obligations.TwoWireStep :=
  fun s ht hd hm => dueStep_steppedTo hd hm (drivePins_twoWire (drivenFrom s) ht)

/-- Settles O36: the default `PAT4` at the new position is R184's row. -/
theorem fullStep_of_due : Obligations.FullStep :=
  fun s ht hd hm => dueStep_steppedTo hd hm (drivePins_fullStep (drivenFrom s) ht)

/-- Settles O37: the default `PAT8` at the new position is R185's row. -/
theorem halfStep_of_due : Obligations.HalfStep :=
  fun s ht hd hm => dueStep_steppedTo hd hm (drivePins_halfStep (drivenFrom s) ht)

end Sys2Proof.Machine

/-! Proofs: a due step with an undefined topology stops under its own name (spec/42_pattern.md R180). -/

namespace Sys2Proof.Machine

open Sys2Proof.Config Sys2Proof.Claim

theorem runSpeedBody_of_undefinedTopology (P : Params) {s : State} (hl : legalTopology s.topology = false)
    (hdue : dueNow s = true) : runSpeedBody P s = .error (.driveUndefinedTopology s.topology) := by
  rcases runSpeedBody_cases P s with ⟨hwaits, -⟩ | ⟨-, hlegal, -⟩ | ⟨-, -, hstop⟩
  · exact absurd hdue (by simp [hwaits])
  · exact absurd hlegal (by simp [hl])
  · exact hstop

/-- Away from the target, the body of `RUN` stops where that of `RUN_SPEED` does. -/
theorem runBody_of_runSpeedBody_error {P : Params} {s : State} {e : Fault} (hne : s.curPos ≠ s.tgtPos)
    (h : runSpeedBody P s = .error e) : runBody P s = .error e := by
  rw [runBody, if_neg hne, h]
  rfl

/-- Settles O40: every body that steps stops in `DRIVE_PINS`, and its command passes the stop on. -/
theorem undefinedTopologyStopsAStep : Obligations.UndefinedTopologyStopsAStep := by
  intro s hl hd
  have hbody := runSpeedBody_of_undefinedTopology params hl ((dueNow_iff_Due s).mpr hd)
  have hrunSpeed : exec .runSpeed s = .fault (.driveUndefinedTopology s.topology) := congrArg respondBool hbody
  exact ⟨hrunSpeed, fun hne => ⟨(exec_runSpeedToPosition_of_ne hne).trans hrunSpeed,
    congrArg respondBool (runBody_of_runSpeedBody_error hne hbody)⟩⟩

end Sys2Proof.Machine

/-! Proofs: the commands that set targets and the configuration (spec/43_commands.md R210 to R217). A command answers
its write and what `APPLY_SPEED` leaves after it, with the response 0, or enters its fault on a refused operand. -/

namespace Sys2Proof.Machine

open Sys2Proof.Config Sys2Proof.Claim

/-! ### `APPLY_SPEED` -/

/-- A command that applies a speed and responds leaves everything else as it was. -/
theorem respond_applySpeed_frame (P : Params) (v : F32) (w : U32) (s : State) :
    respond w (applySpeed P v s) =
      { s with speed := (applySpeed P v s).speed, stepInterval := (applySpeed P v s).stepInterval,
               log := s.log ++ [.response w] } :=
  congrArg (respond w) (applySpeed_frame P v s)

theorem flt_asymm {a b : F32} (h : flt a b = true) : flt b a = false :=
  Bool.eq_false_iff.mpr fun h' => by
    obtain ⟨-, -, hlt⟩ := flt_iff.mp h
    obtain ⟨-, -, hgt⟩ := flt_iff.mp h'
    omega

/-- `APPLY_SPEED` in the words of R130. -/
theorem speedApplied_applySpeed (v : F32) (s : State) : SpeedApplied v s (applySpeed params v s) := by
  have hsame : speedUnchanged v s = true ↔
      feq v s.speed = true ∧ fle (fneg s.maxSpeed) s.speed = true ∧ fle s.speed s.maxSpeed = true := by
    simp [speedUnchanged, and_assoc]
  unfold SpeedApplied
  rw [← if_congr hsame rfl rfl]
  rcases applySpeed_cases params v s with ⟨h, e⟩ | ⟨h, e⟩ <;> rw [h, e]
  · exact ⟨rfl, rfl⟩
  · refine ⟨rfl, fun hup => ?_, fun hdown => ?_, fun hup hdown => ?_⟩
    · simp [clampSpeed, hup]
    · simp [clampSpeed, flt_asymm hdown.1, hdown]
    · simp only [setSpeedPair_speed, clampSpeed, Bool.and_eq_true, if_neg hup, if_neg hdown]

theorem recomputed_computeNewSpeed (s : State) : Recomputed s (computeNewSpeed params s) :=
  speedApplied_applySpeed (desiredSpeed params s) s

/-! ### The speed 0 -/

theorem feq_comm (a b : F32) : feq a b = feq b a := by
  rw [Bool.eq_iff_iff, feq_iff, feq_iff]
  tauto

/-- A motor with a speed is given the speed `+0.0` and the interval 0. -/
theorem applySpeed_plusZero_of_moving (P : Params) {s : State} (h : feq s.speed plusZero = false) :
    applySpeed P plusZero s = setSpeedPair plusZero 0#32 s := by
  have hchanged : speedUnchanged plusZero s = false := by simp [speedUnchanged, feq_comm plusZero, h]
  have hclamp : clampSpeed s.maxSpeed plusZero = plusZero := by
    have h0 : flt plusZero plusZero = false := by decide
    simp [clampSpeed, h0]
  have hinterval : intervalOf P plusZero = 0#32 := if_pos (by decide)
  rw [applySpeed, if_neg (by simp [hchanged]), hclamp, hinterval]

/-- A motor at rest keeps its zero, whatever its sign. -/
theorem applySpeed_plusZero_of_atRest (P : Params) {s : State} (h : feq s.speed plusZero = true)
    (hmax : fle plusZero s.maxSpeed = true) : applySpeed P plusZero s = s := by
  obtain ⟨hnan, -, hspeed⟩ := feq_iff.mp h
  obtain ⟨-, hnan', hkey⟩ := fle_iff.mp hmax
  rw [fkey_plusZero] at hspeed hkey
  have habove : fle (fneg s.maxSpeed) s.speed = true :=
    fle_iff.mpr ⟨(isNaN_fneg _).trans hnan', hnan, by rw [fkey_fneg]; omega⟩
  have hbelow : fle s.speed s.maxSpeed = true := fle_iff.mpr ⟨hnan, hnan', by omega⟩
  rw [applySpeed, if_pos (by simp [speedUnchanged, feq_comm plusZero, h, habove, hbelow])]

/-! ### Targets -/

/-- Settles O41: the recomputation after the write; at the target it applies the speed 0. -/
theorem moveCommandsSetTargetAndSpeed : Obligations.MoveCommandsSetTargetAndSpeed := by
  refine ⟨fun p s => ⟨respond 0#32 (computeNewSpeed params (setTgtPos p s)), rfl,
    respond_applySpeed_frame params _ 0#32 _, recomputed_computeNewSpeed (setTgtPos p s), fun hp hv => ?_⟩,
    fun r s => ⟨_, rfl, rfl⟩⟩
  rw [computeNewSpeed_at_target params (s := setTgtPos p s) hp.symm,
    applySpeed_plusZero_of_moving params (s := setTgtPos p s) hv]
  exact ⟨rfl, rfl⟩

/-- Settles O42: the new position is the new target, so the command applies the speed 0. -/
theorem setCurrentPositionStopsTheMotor : Obligations.SetCurrentPositionStopsTheMotor := by
  intro p s
  refine ⟨_, exec_setCurrentPosition p s, respond_applySpeed_frame params plusZero 0#32 _, fun hv => ?_,
    fun hv hmax => ?_⟩
  · rw [applySpeed_plusZero_of_moving params (s := setTgtPos p (setCurPos p s)) hv]
    exact ⟨rfl, rfl⟩
  · rw [applySpeed_plusZero_of_atRest params (s := setTgtPos p (setCurPos p s)) hv hmax]
    exact ⟨rfl, rfl⟩

/-! ### Accepted operands -/

theorem maxSpeedRefused_eq (v : F32) : maxSpeedRefused v = !(isFinite v && fle plusZero v) := by
  simp [maxSpeedRefused, isFinite_eq]

theorem accelerationRefused_eq (a : F32) : accelerationRefused a = !(isFinite a && flt plusZero a) := by
  simp [accelerationRefused, isFinite_eq]

theorem exec_setMaxSpeed_accepted {v : F32} (s : State) (hfin : isFinite v = true) (h0 : fle plusZero v = true) :
    exec (.setMaxSpeed v) s = .next (respond 0#32 (computeNewSpeed params (setMaxSpeed v s))) := by
  rw [exec_setMaxSpeed, if_neg (by simp [maxSpeedRefused_eq, hfin, h0])]

theorem exec_setAcceleration_accepted {a : F32} (s : State) (hfin : isFinite a = true)
    (hpos : flt plusZero a = true) :
    exec (.setAcceleration a) s = .next (respond 0#32 (computeNewSpeed params (setAccel a s))) := by
  rw [exec_setAcceleration, if_neg (by simp [accelerationRefused_eq, hfin, hpos])]

theorem exec_setSpeed_accepted {v : F32} (s : State) (hv : isNaN v = false) :
    exec (.setSpeed v) s = .next (respond 0#32 (applySpeed params v s)) := by
  rw [exec_setSpeed, if_neg (by simp [speedRefused, hv])]

/-- Settles O43: the operand is accepted, and the speed is recomputed after the write. -/
theorem setMaxSpeedAccepts : Obligations.SetMaxSpeedAccepts :=
  fun v s hfin h0 => ⟨_, exec_setMaxSpeed_accepted s hfin h0, respond_applySpeed_frame params _ 0#32 _,
    recomputed_computeNewSpeed (setMaxSpeed v s)⟩

/-- Settles O44: the operand is accepted, and the speed is recomputed after the write. -/
theorem setAccelerationAccepts : Obligations.SetAccelerationAccepts :=
  fun a s hfin hpos => ⟨_, exec_setAcceleration_accepted s hfin hpos, respond_applySpeed_frame params _ 0#32 _,
    recomputed_computeNewSpeed (setAccel a s)⟩

/-- The early return finds the value within the maximum (R130). -/
theorem within_of_speedUnchanged {v : F32} {s : State} (h : speedUnchanged v s = true) :
    -fkey s.maxSpeed ≤ fkey v ∧ fkey v ≤ fkey s.maxSpeed := by
  simp only [speedUnchanged, Bool.and_eq_true] at h
  obtain ⟨⟨hfeq, habove⟩, hbelow⟩ := h
  obtain ⟨-, -, hkey⟩ := feq_iff.mp hfeq
  obtain ⟨-, -, hlo⟩ := fle_iff.mp habove
  obtain ⟨-, -, hhi⟩ := fle_iff.mp hbelow
  rw [fkey_fneg] at hlo
  omega

theorem applySpeed_speed_of_above (P : Params) {v : F32} {s : State} (hpos : flt plusZero v = true)
    (h : flt s.maxSpeed v = true) : (applySpeed P v s).speed = s.maxSpeed := by
  rcases applySpeed_cases P v s with ⟨hsame, -⟩ | ⟨-, e⟩
  · have hwithin := within_of_speedUnchanged hsame
    obtain ⟨-, -, hkey⟩ := flt_iff.mp h
    omega
  · simp [e, clampSpeed, hpos, h]

theorem applySpeed_speed_of_below (P : Params) {v : F32} {s : State} (hneg : flt v plusZero = true)
    (h : flt v (fneg s.maxSpeed) = true) : (applySpeed P v s).speed = fneg s.maxSpeed := by
  rcases applySpeed_cases P v s with ⟨hsame, -⟩ | ⟨-, e⟩
  · have hwithin := within_of_speedUnchanged hsame
    obtain ⟨-, -, hkey⟩ := flt_iff.mp h
    rw [fkey_fneg] at hkey
    omega
  · simp [e, clampSpeed, flt_asymm hneg, hneg, h]

/-- The negative infinity lies below every finite value. -/
theorem flt_negInf {a : F32} (ha : isFinite a = true) : flt 0xFF800000#32 a = true := by
  have hkey : fkey 0xFF800000#32 = -(infMag : Int) := by decide
  obtain ⟨hlo, -⟩ := (isFinite_iff_fkey a).mp ha
  exact flt_iff.mpr ⟨by decide, isNaN_of_isFinite ha, hkey ▸ hlo⟩

/-- Settles O45: the operand is applied as it is; an infinity lies beyond any finite maximum. -/
theorem setSpeedAppliesWithoutRecomputing : Obligations.SetSpeedAppliesWithoutRecomputing := by
  refine ⟨fun v s hv => ?_, fun s t hfin _ => ⟨fun h => ?_, fun h => ?_⟩⟩
  · exact ⟨_, exec_setSpeed_accepted s hv, respond_applySpeed_frame params v 0#32 s, speedApplied_applySpeed v s⟩
  · cases (exec_setSpeed_accepted s (by decide)).symm.trans h
    exact applySpeed_speed_of_above params (by decide) ((flt_isInf_iff hfin (by decide)).mpr (by decide))
  · cases (exec_setSpeed_accepted s (by decide)).symm.trans h
    exact applySpeed_speed_of_below params (by decide) (flt_negInf ((isFinite_fneg _).trans hfin))

/-- Settles O47: the command is its write and its response. -/
theorem setMinPulseWidthWritesItOnly : Obligations.SetMinPulseWidthWritesItOnly := fun _ _ => rfl

/-! ### Refused operands -/

/-- The number of a frame is that of its three fields (R90). -/
theorem toNat_mkFrame (v : U32) (c : BitVec 8) : (mkFrame v c).toNat = v.toNat * 2 ^ 32 + c.toNat := by
  have hopcode := congrArg BitVec.toNat (opcodeOf_mkFrame v c)
  have hrsvd := congrArg BitVec.toNat (rsvdOf_mkFrame v c)
  have hoperand := congrArg BitVec.toNat (operandOf_mkFrame v c)
  have hlt := (mkFrame v c).isLt
  simp only [opcodeOf, rsvdOf, operandOf, BitVec.extractLsb'_toNat, BitVec.toNat_ofNat,
    Nat.shiftRight_eq_div_pow] at hopcode hrsvd hoperand
  omega

/-- Fault entry of an unfaulted core by its own command records the number of the command's frame (R273). -/
theorem raiseFault_ownFrame (c : Cause) (i : Instr) {s : State} (hf : s.faulted = false) :
    FaultEntered (causeCode c) s (raiseFault c (encode i) s) ∧
      (raiseFault c (encode i) s).faultFrame.toNat = i.operand.toNat * 2 ^ 32 + i.op.opcode.toNat := by
  refine ⟨faultEntered_raiseFault c (encode i) hf, ?_⟩
  rw [raiseFault_faultFrame, if_neg (by simp [hf]), encode, toNat_mkFrame]

/-- Settles O46: each setter enters its fault on the operands it refuses. -/
theorem refusedOperandsRaiseTheirFault : Obligations.RefusedOperandsRaiseTheirFault := by
  refine ⟨fun v s hf hv => ?_, fun a s hf ha => ?_, fun v s hf hv => ?_⟩
  · have hrefused : maxSpeedRefused v = true := by rcases hv with h | h <;> simp [maxSpeedRefused_eq, h]
    exact ⟨_, by rw [exec_setMaxSpeed, if_pos hrefused], raiseFault_ownFrame .invalidMaxSpeed (.setMaxSpeed v) hf⟩
  · have hrefused : accelerationRefused a = true := by rcases ha with h | h <;> simp [accelerationRefused_eq, h]
    exact ⟨_, by rw [exec_setAcceleration, if_pos hrefused],
      raiseFault_ownFrame .invalidAcceleration (.setAcceleration a) hf⟩
  · have hrefused : speedRefused v = true := hv
    exact ⟨_, by rw [exec_setSpeed, if_pos hrefused], raiseFault_ownFrame .invalidSpeed (.setSpeed v) hf⟩

end Sys2Proof.Machine

/-! Proofs: the run commands where no step is due or none is left (spec/43_commands.md R220 to R222), a due `RUN`, and
the blocking commands (R223 to R226; spec/70_reset_and_hazards.md R311). -/

namespace Sys2Proof.Machine

open Sys2Proof.Config Sys2Proof.Claim

/-! ### The run commands -/

theorem runBody_at_target (P : Params) {s : State} (h : s.curPos = s.tgtPos) : runBody P s = .ok (false, s) :=
  if_pos h

/-- Settles O31: both bodies answer the state as it is. -/
theorem atTargetNothingRuns : Obligations.AtTargetNothingRuns :=
  fun _ h => ⟨congrArg respondBool (runBody_at_target params h), congrArg respondBool (if_pos h)⟩

theorem runSpeedBody_not_due (P : Params) {s : State} (h : dueNow s = false) :
    runSpeedBody P s = .ok (false, takeSample s) := by
  rw [runSpeedBody, if_neg (by simp [h])]

theorem runBody_not_due (P : Params) {s : State} (hne : s.curPos ≠ s.tgtPos) (h : dueNow s = false) :
    runBody P s = .ok (true, takeSample s) := by
  rw [runBody, if_neg hne, runSpeedBody_not_due P h]
  rfl

theorem respond_takeSample (v : U32) (s : State) :
    respond v (takeSample s) =
      { s with clockIn := s.clockIn.tail, samples := s.samples + 1,
               log := s.log ++ [.sample (clockNow s), .response v] } := by
  simp [respond, takeSample, emit]

/-- Settles O32: every body answers the state with the sample taken. -/
theorem notDueTakesOneSampleOnly : Obligations.NotDueTakesOneSampleOnly := by
  intro s h
  have hdue : dueNow s = false := by rwa [← Bool.not_eq_true, dueNow_iff_Due]
  rw [← respond_takeSample, ← respond_takeSample]
  have hrunSpeed : exec .runSpeed s = .next (respond 0#32 (takeSample s)) :=
    congrArg respondBool (runSpeedBody_not_due params hdue)
  exact ⟨hrunSpeed, fun hne => ⟨(exec_runSpeedToPosition_of_ne hne).trans hrunSpeed,
    congrArg respondBool (runBody_not_due params hne hdue)⟩⟩

/-- Settles O38: the body of `RUN` recomputes on the state that the body of `RUN_SPEED` leaves. -/
theorem runStepsAndRecomputes : Obligations.RunStepsAndRecomputes := by
  intro s hne hd hl
  rcases runBody_cases params s with ⟨h, -⟩ | ⟨-, h, -⟩ | ⟨-, -, -, u, hu, -, e⟩ | ⟨-, -, h, -⟩
  · exact absurd h hne
  · exact absurd ((dueNow_iff_Due s).mpr hd) (by simp [h])
  · exact ⟨respond 1#32 u, respond 1#32 (computeNewSpeed params u), congrArg respondBool hu, congrArg respondBool e,
      respond_applySpeed_frame params _ 1#32 u, recomputed_computeNewSpeed u⟩
  · exact absurd hl (by simp [h])

/-! ### Starting a blocking command -/

theorem getLsbD_withBusy (b : Bool) (st : BitVec 32) (n : Nat) :
    (withBusy b st).getLsbD n = if n = 0 then b else st.getLsbD n := by
  rcases Nat.lt_or_ge n 32 with hn | hn
  · have hset : ∀ n < 32, (0x00000001#32).getLsbD n = decide (n = 0) := by decide
    have hkept : ∀ n < 32, (0xFFFFFFFE#32).getLsbD n = !decide (n = 0) := by decide
    cases b with
    | true => simp only [withBusy, if_true, BitVec.getLsbD_or, hset n hn]; grind
    | false => simp only [withBusy, Bool.false_eq_true, if_false, BitVec.getLsbD_and, hkept n hn]; grind
  · rw [BitVec.getLsbD_of_ge _ _ hn, BitVec.getLsbD_of_ge _ _ hn, if_neg (by omega)]

/-- Of `STATUS` only `BUSY` is written. -/
theorem withBusy_spec (b : Bool) (st : BitVec 32) :
    (withBusy b st).getLsbD 0 = b ∧ ∀ n, n ≠ 0 → (withBusy b st).getLsbD n = st.getLsbD n :=
  ⟨by rw [getLsbD_withBusy, if_pos rfl], fun n hn => by rw [getLsbD_withBusy, if_neg hn]⟩

theorem enterBusy_eq_after_respond (v : U32) (u : State) :
    enterBusy u = { enterBusy (respond v u) with log := u.log } := rfl

/-- Settles O48: `RUN_TO_NEW_POSITION` is the two commands' operations in a row. -/
theorem blockingCommandsCloseThePort : Obligations.BlockingCommandsCloseThePort := by
  refine ⟨fun s => ⟨_, rfl, rfl, withBusy_spec true s.status⟩, fun p s => ⟨_, _, _, rfl, rfl, rfl, ?_⟩⟩
  rw [enterBusy_eq_after_respond 0#32, computeNewSpeed_log, setTgtPos_log]

/-! ### Iterations -/

theorem coreStepBy_of_busy {P : Params} {s : State} (hq : s.seq = .busyRtp) : coreStepBy P s = rtpIterate P s := by
  rw [coreStepBy, hq]

theorem step_without_move {s : State} (hh : s.host = []) : step s = coreStepBy params s := by
  simp [step, portStep, portStepBy, workStepBy, hh]

theorem step_of_pause {s : State} {rest : List HostMove} (hh : s.host = .pause :: rest) :
    step s = coreStepBy params { s with host := rest } := by
  simp [step, portStep, portStepBy, workStepBy, dropMove, hh]

/-- Settles O7: without a frame the step is the core's own. -/
theorem stepWithoutAFrame : Obligations.StepWithoutAFrame :=
  ⟨fun _ hh hq => (step_without_move hh).trans (coreStepBy_of_idle hq),
    fun _ hh hq => (step_without_move hh).trans (coreStepBy_of_busy hq),
    fun s rest hh hq => (step_of_pause hh).trans (coreStepBy_of_idle (s := { s with host := rest }) hq),
    fun s rest hh hq => (step_of_pause hh).trans (coreStepBy_of_busy (s := { s with host := rest }) hq)⟩

theorem step_of_busy {s : State} (hh : s.host = []) (hq : s.seq = .busyRtp) : step s = rtpIterate params s :=
  (step_without_move hh).trans (coreStepBy_of_busy hq)

/-- Away from the target the body of `RUN` answers 1 and leaves sequencer and status. -/
theorem runBody_of_ne (P : Params) {s : State} (hne : s.curPos ≠ s.tgtPos) (hl : legalTopology s.topology = true) :
    ∃ t, runBody P s = .ok (true, t) ∧ t.seq = s.seq ∧ t.status = s.status := by
  rcases runBody_cases P s with ⟨h, -⟩ | ⟨-, -, e⟩ | ⟨-, -, -, u, -, ⟨v, w, l, rfl⟩, e⟩ | ⟨-, -, h, -⟩
  · exact absurd h hne
  · exact ⟨_, e, rfl, rfl⟩
  · exact ⟨_, e, computeNewSpeed_seq P _, computeNewSpeed_status P _⟩
  · exact absurd hl (by simp [h])

/-- Settles O49: an iteration and `RUN` share their body. -/
theorem blockingCommandEndsExactlyAtTheTarget : Obligations.BlockingCommandEndsExactlyAtTheTarget := by
  refine ⟨fun s hh hq h => ?_, fun s hh hq hne hl => ?_⟩ <;> rw [step_of_busy hh hq, rtpIterate]
  · rw [runBody_at_target params h]
    exact ⟨_, rfl, rfl, withBusy_spec false s.status⟩
  · obtain ⟨t, ht, hseq, hstatus⟩ := runBody_of_ne params hne hl
    rw [ht]
    exact ⟨t, rfl, hseq.trans hq, hstatus, congrArg respondBool ht⟩

/-- An iteration with interval 0 takes a sample and nothing else (R162). -/
theorem step_of_zeroInterval {s : State} (hh : s.host = []) (hq : s.seq = .busyRtp) (hne : s.curPos ≠ s.tgtPos)
    (h0 : s.stepInterval = 0#32) : step s = .next (takeSample s) := by
  have hdue : dueNow s = false := by rw [dueNow, h0, stepDue, if_pos rfl]
  rw [step_of_busy hh hq, rtpIterate, runBody_not_due params hne hdue]

/-- Settles O50, by induction on the number of steps: the state with a sample taken meets the premises again. -/
theorem zeroIntervalHangsForever : Obligations.ZeroIntervalHangsForever := by
  intro k
  induction k with
  | zero => exact fun s _ _ _ _ => ⟨[], rfl, by simp [Host.Core.run]⟩
  | succ k ih =>
    intro s hh hq hne h0
    obtain ⟨nows, hlen, hrun⟩ := ih (takeSample s) hh hq hne h0
    refine ⟨clockNow s :: nows, congrArg (· + 1) hlen, ?_⟩
    rw [run_succ_of_step (step_of_zeroInterval hh hq hne h0), hrun]
    simp [takeSample, emit, Nat.add_assoc, Nat.add_comm 1]

end Sys2Proof.Machine

/-! Proofs: the read-back commands (spec/43_commands.md R227 to R239). -/

namespace Sys2Proof.Machine

open Sys2Proof.Config Sys2Proof.Claim

/-- Settles O52: each command is its response, and its frame is its opcode. -/
theorem motionReadBack : Obligations.MotionReadBack :=
  fun _ => ⟨⟨rfl, rfl⟩, ⟨rfl, rfl⟩, ⟨rfl, rfl⟩, ⟨rfl, rfl⟩, ⟨rfl, rfl⟩, ⟨rfl, rfl⟩, ⟨rfl, rfl⟩, ⟨rfl, rfl⟩⟩

theorem toNat_u16Response (w : U16) : (u16Response w).toNat = w.toNat := BitVec.toNat_setWidth_of_le (by decide)

theorem toNat_frameLo (f : Frame) : (frameLo f).toNat = f.toNat % 2 ^ 32 := by simp [frameLo]

theorem toNat_frameHi (f : Frame) : (frameHi f).toNat = f.toNat / 2 ^ 32 := by
  have hlt := f.isLt
  rw [frameHi, BitVec.extractLsb'_toNat, Nat.shiftRight_eq_div_pow]
  omega

/-- An idle core's `STATUS` shows no `BUSY` (R45). -/
theorem busy_clear_of_idle {s : State} (hs : Inv s) (hq : s.seq = .idle) : s.status.getLsbD 0 = false := by
  obtain ⟨c, hstatus, -⟩ := hs.status
  rw [hstatus, hq]
  rcases c with _ | c
  · decide
  · cases c <;> decide

/-- Settles O53: each command is its response; `BUSY` is the invariant's. -/
theorem statusAndConfigReadBack : Obligations.StatusAndConfigReadBack :=
  ⟨fun s => ⟨⟨rfl, _, toNat_u16Response s.minPulseWidth, rfl⟩, ⟨rfl, rfl⟩, ⟨rfl, rfl⟩,
    ⟨rfl, _, toNat_frameLo s.faultFrame, rfl⟩, ⟨rfl, _, toNat_frameHi s.faultFrame, rfl⟩⟩,
    fun _ => busy_clear_of_idle⟩

end Sys2Proof.Machine

/-! Proofs: from a state that meets the invariant every step completes (spec/60_exceptions.md R275, R278). The one stop
of the model is `DRIVE_PINS` with an undefined topology. By the invariant such a topology faults the core (R271), a
faulted core is idle and performs read-back commands only (R97, R273), and these drive no pin. -/

namespace Sys2Proof.Machine

open Sys2Proof.Config Sys2Proof.Claim

theorem completes_next (t : State) : Completes (.next t) := ⟨t, rfl⟩

/-! ### A legal topology completes every command -/

theorem legalTopology_of_unfaulted {s : State} (hs : Inv s) (hf : s.faulted = false) :
    legalTopology s.topology = true := by
  obtain ⟨-, htop, -⟩ := record_of_unfaulted hs hf
  exact (Bool.not_eq_false _).mp htop

theorem completes_respondBool {r : Except Fault (Bool × State)} (h : ∃ b t, r = .ok (b, t)) :
    Completes (respondBool r) := by
  obtain ⟨b, t, rfl⟩ := h
  exact completes_next _

section
variable (P : Params) {s : State} (hl : legalTopology s.topology = true)
include hl

theorem runSpeedBody_eq_ok_of_legal : ∃ b t, runSpeedBody P s = .ok (b, t) := by
  rcases runSpeedBody_cases P s with ⟨-, e⟩ | ⟨-, -, t, e, -⟩ | ⟨-, h, -⟩
  · exact ⟨false, _, e⟩
  · exact ⟨true, t, e⟩
  · exact nomatch hl.symm.trans h

theorem runBody_eq_ok_of_legal : ∃ b t, runBody P s = .ok (b, t) := by
  by_cases h : s.curPos = s.tgtPos
  · exact ⟨false, s, runBody_at_target P h⟩
  · obtain ⟨t, e, -, -⟩ := runBody_of_ne P h hl
    exact ⟨true, t, e⟩

theorem runSpeedToPositionBody_eq_ok_of_legal : ∃ b t, runSpeedToPositionBody P s = .ok (b, t) := by
  unfold runSpeedToPositionBody
  split
  · exact ⟨false, s, rfl⟩
  · exact runSpeedBody_eq_ok_of_legal P hl

theorem completes_rtpIterate : Completes (rtpIterate P s) := by
  rcases rtpIterate_cases P s with ⟨-, e⟩ | ⟨-, -, e⟩ | ⟨-, -, -, t, -, -, e⟩ | ⟨-, -, h, -⟩
  · exact ⟨_, e⟩
  · exact ⟨_, e⟩
  · exact ⟨_, e⟩
  · exact nomatch hl.symm.trans h

end

/-- Only the commands that step can stop, and none of them is a read-back command (R278). -/
theorem completes_exec {i : Instr} {s : State} (h : isReadBack i = true ∨ legalTopology s.topology = true) :
    Completes (exec i s) := by
  have hlegal (hi : isReadBack i = false) : legalTopology s.topology = true :=
    h.resolve_left (ne_true_of_eq_false hi)
  cases i with
  | setMaxSpeed v => rw [exec_setMaxSpeed]; exact completes_next _
  | setAcceleration a => rw [exec_setAcceleration]; exact completes_next _
  | setSpeed v => rw [exec_setSpeed]; exact completes_next _
  | run => exact completes_respondBool (runBody_eq_ok_of_legal params (hlegal rfl))
  | runSpeed => exact completes_respondBool (runSpeedBody_eq_ok_of_legal params (hlegal rfl))
  | runSpeedToPosition => exact completes_respondBool (runSpeedToPositionBody_eq_ok_of_legal params (hlegal rfl))
  | _ => exact completes_next _

/-! ### Steps -/

theorem completes_rtpIterate_of_busy {s : State} (hs : Inv s) (hq : s.seq = .busyRtp) :
    Completes (rtpIterate params s) :=
  completes_rtpIterate params (legalTopology_of_unfaulted hs (unfaulted_of_busy hs hq))

theorem completes_coreStep {s : State} (hs : Inv s) : Completes (coreStepBy params s) := by
  rcases coreStepBy_cases params s with ⟨-, e⟩ | ⟨hq, e⟩ <;> rw [e]
  · exact completes_next s
  · exact completes_rtpIterate_of_busy hs hq

theorem completes_dispatch {s : State} (hs : Inv s) (f : Frame) : Completes (dispatch f s) := by
  rcases dispatch_cases f s with ⟨-, -, e⟩ | ⟨-, -, e⟩ | ⟨i, -, hf, e⟩ <;> rw [e]
  · exact completes_next _
  · exact completes_next _
  · refine completes_exec ?_
    cases hfs : s.faulted with
    | true => exact .inl (hf hfs)
    | false => exact .inr (legalTopology_of_unfaulted hs hfs)

theorem completes_workStep {s : State} (hs : Inv s) : Completes (workStepBy params exec s) := by
  rcases workStepBy_cases params exec s with
    ⟨-, e⟩ | ⟨rest, -, e⟩ | ⟨f, now, rest, -, -, e⟩ | ⟨f, now, rest, -, hq, e⟩ | ⟨-, e⟩ <;> rw [e]
  · exact completes_coreStep hs
  · exact completes_coreStep (s := { s with host := rest }) (inv_congr hs rfl rfl)
  · exact completes_dispatch (s := { s with host := rest, clockIn := now }) (inv_congr hs rfl rfl) f
  · exact completes_rtpIterate_of_busy hs hq
  · exact completes_next s

theorem completes_abandon (strap : BitVec 4) (n : Nat) (s : State) {work : Host.Outcome State Fault Refusal}
    (h : Completes work) : Completes (abandon strap n s work) := by
  obtain ⟨t, rfl⟩ := h
  exact completes_next _

/-- Settles O16: a reset completes, also where it abandons work; and the core's work completes, from `s` itself or from
`s` without the reset, whose list of moves the invariant does not read. -/
theorem invariantStatesNeverStop : Obligations.InvariantStatesNeverStop := by
  intro s hs
  change Completes (portStepBy params exec s)
  rcases portStepBy_cases params exec s with ⟨strap, rest, -, e⟩ | ⟨strap, n, rest, -, e⟩ | ⟨-, -, e⟩ <;> rw [e]
  · exact completes_next _
  · exact completes_abandon strap n _ (completes_workStep (inv_congr hs rfl rfl))
  · exact completes_workStep hs

end Sys2Proof.Machine

/-! Proofs: the boundary that reset leaves, and the work it abandons (spec/70_reset_and_hazards.md R300, R323;
spec/10_state.md R49; spec/20_memory.md R76). -/

namespace Sys2Proof.Machine

open Sys2Proof.Config Sys2Proof.Claim

/-! ### A reset at the head of the host's moves -/

/-- What `RESET` does not touch: the boundary, of which it counts one more reset (R300, R76). -/
theorem resetCore_boundary (strap : BitVec 4) (s : State) :
    (resetCore strap s).log = s.log ∧ (resetCore strap s).host = s.host ∧ (resetCore strap s).clockIn = s.clockIn ∧
      (resetCore strap s).samples = s.samples ∧ (resetCore strap s).waits = s.waits ∧
      (resetCore strap s).source = s.source ∧ (resetCore strap s).resets = s.resets + 1 := by
  rw [resetCore_eq]
  exact ⟨rfl, rfl, rfl, rfl, rfl, rfl, rfl⟩

theorem step_of_reset {s : State} {strap : BitVec 4} {rest : List HostMove} (hh : s.host = .reset strap :: rest) :
    step s = .next (resetCore strap { s with host := rest }) := by
  simp [step, portStep, portStepBy, dropMove, hh]

/-- A reset during work abandons what the step without it would do. -/
theorem step_of_resetDuring {s t : State} {strap : BitVec 4} {n : Nat} {rest : List HostMove}
    (hh : s.host = .resetDuring strap n :: rest) (hwork : workStepBy params exec { s with host := rest } = .next t) :
    step s = .next (resetDuringWork strap n { s with host := rest } t) := by
  simp [step, portStep, portStepBy, dropMove, hh, hwork, abandon]

/-- Settles O11: the step is the reset alone, which leaves the boundary. -/
theorem resetLeavesTheBoundary : Obligations.ResetLeavesTheBoundary :=
  fun s strap rest hh => ⟨_, step_of_reset hh, resetCore_boundary strap { s with host := rest }⟩

/-! ### The core's work only adds to the log -/

theorem prefix_of_addsEvents {s t : State} (h : AddsEvents s t) : s.log <+: t.log := by
  obtain ⟨l, -, hlog⟩ := h
  exact ⟨l, hlog.symm⟩

theorem log_prefix_exec {i : Instr} {s t : State} (h : exec i s = .next t) : s.log <+: t.log := by
  obtain ⟨events, -, hlog | ⟨v, hlog⟩⟩ := eventsComeBeforeTheOneResponse i s t h
  · exact ⟨events, hlog.symm⟩
  · exact ⟨events ++ [.response v], by rw [hlog, List.append_assoc]⟩

theorem log_prefix_rtpIterate {P : Params} {s t : State} (h : rtpIterate P s = .next t) : s.log <+: t.log := by
  rcases rtpIterate_cases P s with ⟨-, e⟩ | ⟨-, -, e⟩ | ⟨-, -, -, u, hu, -, e⟩ | ⟨-, -, -, e⟩ <;> rw [h] at e <;>
    cases e
  · exact List.prefix_append _ _
  · exact List.prefix_append _ _
  · rw [computeNewSpeed_log]
    exact prefix_of_addsEvents (runSpeedBody_addsEvents hu)

theorem log_prefix_coreStep {P : Params} {s t : State} (h : coreStepBy P s = .next t) : s.log <+: t.log := by
  rcases coreStepBy_cases P s with ⟨-, e⟩ | ⟨-, e⟩ <;> rw [h] at e
  · cases e
    exact List.prefix_rfl
  · exact log_prefix_rtpIterate e.symm

theorem log_prefix_dispatch {f : Frame} {s t : State} (h : dispatch f s = .next t) : s.log <+: t.log := by
  rcases dispatch_cases f s with ⟨-, -, e⟩ | ⟨-, -, e⟩ | ⟨i, -, -, e⟩ <;> rw [h] at e
  · cases e
    exact List.prefix_append _ _
  · cases e
    exact List.prefix_append _ _
  · exact log_prefix_exec e.symm

theorem log_prefix_workStep {s t : State} (h : workStepBy params exec s = .next t) : s.log <+: t.log := by
  rcases workStepBy_cases params exec s with
    ⟨-, e⟩ | ⟨rest, -, e⟩ | ⟨f, now, rest, -, -, e⟩ | ⟨f, now, rest, -, -, e⟩ | ⟨-, e⟩ <;> rw [h] at e
  · exact log_prefix_coreStep e.symm
  · exact log_prefix_coreStep (s := { s with host := rest }) e.symm
  · exact log_prefix_dispatch (s := { s with host := rest, clockIn := now }) e.symm
  · exact log_prefix_rtpIterate e.symm
  · cases e
    exact List.prefix_rfl

/-! ### The part of abandoned work that stays -/

theorem responseIn_eq_none_iff (o : Output) : responseIn o = none ↔ isNoResponse o = true := by
  cases o <;> simp [responseIn, isNoResponse]

theorem isNoResponse_eq_false {o : Output} (h : isNoResponse o = false) : ∃ v, o = .response v := by
  cases o with
  | response v => exact ⟨v, rfl⟩
  | _ => cases h

theorem responsesOf_abandonedPart (n : Nat) (added : List Output) : responsesOf (abandonedPart n added) = [] := by
  obtain ⟨-, -, hno⟩ := abandonedPart_spec n added
  exact List.filterMap_eq_nil_iff.mpr fun o ho => (responseIn_eq_none_iff o).mpr (hno o ho)

/-- A part shorter than the place `n` is all that comes before the response. -/
theorem abandonedPart_of_short {n : Nat} {added : List Output} (h : (abandonedPart n added).length < n) :
    abandonedPart n added = added.takeWhile isNoResponse := by
  rw [abandonedPart, List.length_take] at h
  exact List.take_of_length_le (by omega)

theorem nil_or_response_after_abandonedPart {n : Nat} {added more : List Output}
    (hmore : abandonedPart n added ++ more = added) (h : (abandonedPart n added).length < n) :
    more = [] ∨ ∃ v, more.head? = some (.response v) := by
  have hdrop : more = added.dropWhile isNoResponse := by
    rw [abandonedPart_of_short h] at hmore
    exact List.append_cancel_left (hmore.trans List.takeWhile_append_dropWhile.symm)
  cases more with
  | nil => exact .inl rfl
  | cons o l =>
    have ho := List.head?_dropWhile_not isNoResponse added
    rw [← hdrop] at ho
    obtain ⟨v, rfl⟩ := isNoResponse_eq_false (by simpa using ho)
    exact .inr ⟨v, rfl⟩

/-- Reset during work keeps that part of what the work adds, and the host's moves as the work leaves them. -/
theorem resetDuringWork_boundary (strap : BitVec 4) (n : Nat) {s t : State} {added : List Output}
    (h : t.log = s.log ++ added) :
    (resetDuringWork strap n s t).log = s.log ++ abandonedPart n added ∧
      (resetDuringWork strap n s t).host = t.host := by
  rw [resetDuringWork, h, List.drop_left]
  obtain ⟨hlog, hhost, -⟩ := resetCore_boundary strap { t with log := s.log ++ abandonedPart n added }
  exact ⟨hlog, hhost⟩

theorem workStep_of_step {s t : State} (hno : ∀ strap, ¬ ResetNext strap s) (h : step s = .next t) :
    workStepBy params exec s = .next t := by
  rcases step_eq_next h with ⟨strap, -, hreset, -⟩ | ⟨-, hwork⟩
  · exact absurd hreset (hno strap)
  · exact hwork

/-- Settles O12: the work without the reset adds to the log, and `abandonedPart` of what it adds stays. -/
theorem resetAbandonsTheWorkAnywhere : Obligations.ResetAbandonsTheWorkAnywhere := by
  intro s t strap n rest hh hno h
  have hwork := workStep_of_step hno h
  obtain ⟨added, hadded⟩ := log_prefix_workStep hwork
  obtain ⟨⟨more, hmore⟩, hlen, -⟩ := abandonedPart_spec n added
  obtain ⟨hlog, hhost⟩ := resetDuringWork_boundary strap n hadded.symm
  refine ⟨_, abandonedPart n added, more, step_of_resetDuring hh hwork, resetValues_resetCore strap _, hhost, ?_,
    hlog, hlen, responsesOf_abandonedPart n added, nil_or_response_after_abandonedPart hmore⟩
  rw [List.append_assoc, hmore]
  exact hadded.symm

end Sys2Proof.Machine

/-! Proofs: the speeds that stall the motion (spec/70_reset_and_hazards.md R311; spec/41_timing_gate.md R162;
spec/40_profile.md R131). -/

namespace Sys2Proof.Machine

open Sys2Proof.Config Sys2Proof.Claim

/-- `MAX_SPEED` 0 leaves no speed but 0 (R48.1). -/
theorem isZero_speed_of_isZero_maxSpeed {s : State} (h : RegistersLegal s) (h0 : isZero s.maxSpeed = true) :
    isZero s.speed = true := by
  obtain ⟨hlo, hhi⟩ := fkey_speed_within h
  rw [← fkey_eq_zero_iff] at h0 ⊢
  omega

theorem interval_eq_zero_of_stalled {s : State} (hs : Inv s)
    (h : isZero s.maxSpeed = true ∨ flt million (fabs s.speed) = true) : s.stepInterval = 0#32 := by
  have hnan := isNaN_speed hs.legal
  rw [hs.interval, intervalIsZeroExactlyOutsideTheRange _ hnan, feq_plusZero_iff hnan]
  exact h.imp_left (isZero_speed_of_isZero_maxSpeed hs.legal)

/-- Settles O51: the interval of such a speed is 0, and no step is due with it. -/
theorem stalledSpeedsNeverStep : Obligations.StalledSpeedsNeverStep := by
  intro s hs h
  have h0 := interval_eq_zero_of_stalled hs h
  obtain ⟨-, haway⟩ := notDueTakesOneSampleOnly s fun ⟨hinterval, _⟩ => hinterval h0
  exact ⟨h0, fun hne => (haway hne).2⟩

end Sys2Proof.Machine

/-! Proofs: a step of a system is the step of one of its cores (spec/60_exceptions.md R284; spec/20_memory.md R87). -/

namespace Sys2Proof.Machine

/-- What a system step that completes can do: nothing where there is no core `k`, else core `k`'s own step in its
place. -/
theorem systemStepBy_eq_next {step1 : State → Host.Outcome State Fault Refusal} {cores after : List State} {k : Nat}
    (h : systemStepBy step1 cores k = .next after) :
    (cores[k]? = none ∧ after = cores) ∨
      ∃ s t, cores[k]? = some s ∧ step1 s = .next t ∧ after = cores.set k t := by
  unfold systemStepBy at h
  split at h
  next hk => exact .inl ⟨hk, by cases h; rfl⟩
  next s hk =>
    split at h <;> cases h
    next t ht => exact .inr ⟨s, t, hk, ht, rfl⟩

/-- Settles O59: such a step leaves the list as it is, or sets its one entry `k`. -/
theorem coresShareNoState : Obligations.CoresShareNoState := by
  intro cores after k h
  rcases systemStepBy_eq_next h with ⟨hnone, rfl⟩ | ⟨s, t, hk, hstep, rfl⟩
  · exact ⟨rfl, fun _ _ => rfl, fun s hs => by simp [hnone] at hs⟩
  · obtain ⟨hlt, -⟩ := List.getElem?_eq_some_iff.mp hk
    refine ⟨List.length_set, fun j hj => List.getElem?_set_ne hj.symm, fun s' hs' => ?_⟩
    obtain rfl : s = s' := Option.some.inj (hk.symm.trans hs')
    exact ⟨t, hstep, List.getElem?_set_self hlt⟩

end Sys2Proof.Machine
